-- ==== Sys2Proof/Word.lean ====
section
/-!
DEFINITION. The word types of the BX8's frames and replies (12_frame_and_record_layouts.md, R187):
a data frame and a reply word are 32 bits, a bench bus byte is 8, a header's target and argument are 4 each,
and a sense converter delivers a 12-bit code (R26).
-/

namespace Sys2Proof

/-- A 32-bit data frame or reply word. -/
abbrev Word := BitVec 32

/-- A 16-bit header frame: code in bits 15..8, target in 7..4, argument in 3..0. -/
abbrev HeaderWord := BitVec 16

/-- A byte of the bench bus, and a command code. -/
abbrev Byte := BitVec 8

/-- A header's target or argument field. -/
abbrev Nibble := BitVec 4

/-- A sense converter's code, 0..4095 (R26). -/
abbrev SenseCode := BitVec 12

end Sys2Proof
end

