-- ==== Sys2Proof/Config.lean ====
section
/-!
DEFINITION. What is fixed for every BX8, and the free values the spec leaves open. A constant with a body is a
number of the spec, cited where it stands. An opaque constant has no body: a claim about the model holds whatever it is.
-/

namespace Sys2Proof

/-- Phase durations are counted in 0.1 s (00_scope.md, 5); the model's time runs in µs. -/
def Config.tenthUs : Nat := 100000

/-- Hold times are counted in minutes (R150). -/
def Config.minuteUs : Nat := 60000000

/-- A programming of the trim store takes 40 ms (R35). -/
def Config.programmingUs : Nat := 40000

/-- The no-command value of the previous status, FFh (12.2, 12.4). -/
def Config.noCommand : Byte := 0xFF

/-- The indefinite value of an invalid mean or charge (R91). -/
def Config.indefinite : Nat := 65535

/-- FREE VALUE. The code a converter delivers when its conversion ends with no SAMPLE_ARRIVAL or PAIR_SAMPLE_EVENT
command waiting: the first argument is the channel, the second the model's count of free values used.
R26 gives only its range, 0..4095 (log entry 17). -/
opaque Config.analogCode : Nat → Nat → SenseCode

/-- FREE VALUE. Which of several due events the block takes first: R24 and R25 say either may be (log entry
17). -/
opaque Config.firstTaken : Nat → Nat

end Sys2Proof
end

