-- ==== Sys2Proof/Syntax.lean ====
section
/-!
DEFINITION. The commands and events of spec/opcode_table.json, one constructor a row. The 28 named commands carry the
party whose port takes them, the header's target and argument (12.2) and, where 12.4 gives the command operands, its
operand words. The other rows are events of the block and of its wires.
-/

namespace Sys2Proof

/-- The two outside parties, and equally the two holders of a slot and the two ports (R145). -/
inductive Party where
  | rack
  | bench
deriving DecidableEq, Repr

/-- The names of the 28 commands (12.4). -/
inductive Cmd where
  | bind | unbind | start | stop | ack | drive | setConv
  | slotInit | status | summaryRead | take | release | holdTime | evPeek
  | evRetire | evFree | evClear | faultRead | alertMask | profileWrite | profileRead
  | pair | partStatus | setSampling | trimSet | trimRead | trimProgram | deviceReset
deriving DecidableEq, Repr

/-- One row of the opcode table each. -/
inductive Instr where
  -- the named commands, each at the moment its last frame arrives (R181)
  | bind (p : Party) (target arg : Nibble)
  | unbind (p : Party) (target arg : Nibble)
  | start (p : Party) (target arg : Nibble)
  | stop (p : Party) (target arg : Nibble)
  | ack (p : Party) (target arg : Nibble)
  | drive (p : Party) (target arg : Nibble) (op : Word)
  | setConv (p : Party) (target arg : Nibble) (op : Word)
  | slotInit (p : Party) (target arg : Nibble)
  | status (p : Party) (target arg : Nibble)
  | summaryRead (p : Party) (target arg : Nibble)
  | take (p : Party) (target arg : Nibble)
  | release (p : Party) (target arg : Nibble)
  | holdTime (p : Party) (target arg : Nibble) (op : Word)
  | evPeek (p : Party) (target arg : Nibble)
  | evRetire (p : Party) (target arg : Nibble)
  | evFree (p : Party) (target arg : Nibble)
  | evClear (p : Party) (target arg : Nibble)
  | faultRead (p : Party) (target arg : Nibble) (op : Word)
  | alertMask (p : Party) (target arg : Nibble) (op : Word)
  /-- The operand words in their order of arrival; the command's own are the first 6 + 2 × (stage count) (R49). -/
  | profileWrite (p : Party) (target arg : Nibble) (ops : Vector Word 30)
  | profileRead (p : Party) (target arg : Nibble)
  | pair (p : Party) (target arg : Nibble)
  | partStatus (p : Party) (target arg : Nibble)
  | setSampling (p : Party) (target arg : Nibble) (op : Word)
  | trimSet (p : Party) (target arg : Nibble) (op : Word)
  | trimRead (p : Party) (target arg : Nibble)
  | trimProgram (p : Party) (target arg : Nibble)
  | deviceReset (p : Party) (target arg : Nibble)
  -- events of the sense chain, the slot engines, the hold arbiter and the trim store
  | sampleArrival (ch : Fin 8) (code : SenseCode)
  | pairSampleEvent (pr : Fin 4) (codeX codeY : SenseCode)
  | onTimeExpiry (slot : Fin 8)
  | bleedExpiry (slot : Fin 8)
  | restExpiry (slot : Fin 8)
  | endOfLead (slot : Fin 8)
  | drainCompletion (slot : Fin 8)
  | holdTimerExpiry (slot : Fin 8)
  | trimProgrammingCompletion
  -- the shelf inputs, the RESET line and the logic supply
  | heatAsserted
  | heatReleased
  | supplyLowAsserted
  | supplyLowReleased
  | resetLineAsserted
  | resetLineReleased
  | logicSupplyLoss
  | powerOn
  /-- A rack frame with kind bit 1, of `clocks` clocks in all; `before` says its select fell before the last
  power-on or RESET-line reset (R183). -/
  | rackHeaderFrame (clocks : Nat) (content : HeaderWord) (before : Bool)
  /-- A rack frame with kind bit 0. -/
  | rackDataFrame (clocks : Nat) (content : Word) (before : Bool)
  -- the bench bus
  | benchStartCondition
  | benchStopCondition
  | benchAddressByte (b : Byte)
  | benchHeaderUnit (content : HeaderWord)
  | benchDataUnit (content : Word)
  | badKindByte (b : Byte)
  /-- `acked` says whether the bench station acknowledges the byte. -/
  | benchReadByte (acked : Bool)
  | benchUnitByte (b : Byte)
deriving DecidableEq, Repr

end Sys2Proof
end

