-- ==== Sys2Proof/Decode.lean ====
section
/-!
DEFINITION. The command codes of a header frame (12.4) and the operand words each command awaits (R180), and the host's
`decodeTableWord`. No row of spec/opcode_table.json carries bits, so no word spells a row.
-/

namespace Sys2Proof

/-- The command codes of 12.4. -/
def Cmd.code : Cmd → Byte
  | .bind => 0x10
  | .unbind => 0x11
  | .start => 0x12
  | .stop => 0x13
  | .ack => 0x14
  | .drive => 0x15
  | .setConv => 0x16
  | .slotInit => 0x17
  | .status => 0x18
  | .summaryRead => 0x19
  | .take => 0x20
  | .release => 0x21
  | .holdTime => 0x22
  | .evPeek => 0x30
  | .evRetire => 0x31
  | .evFree => 0x32
  | .evClear => 0x33
  | .faultRead => 0x40
  | .alertMask => 0x41
  | .profileWrite => 0x50
  | .profileRead => 0x51
  | .pair => 0x60
  | .partStatus => 0x70
  | .setSampling => 0x71
  | .trimSet => 0x72
  | .trimRead => 0x73
  | .trimProgram => 0x74
  | .deviceReset => 0x75

/-- The command a code names, if any; a code that names none is refused UNKNOWN (R180). -/
def Cmd.ofCode (code : Byte) : Option Cmd :=
  match code.toNat with
  | 0x10 => some .bind
  | 0x11 => some .unbind
  | 0x12 => some .start
  | 0x13 => some .stop
  | 0x14 => some .ack
  | 0x15 => some .drive
  | 0x16 => some .setConv
  | 0x17 => some .slotInit
  | 0x18 => some .status
  | 0x19 => some .summaryRead
  | 0x20 => some .take
  | 0x21 => some .release
  | 0x22 => some .holdTime
  | 0x30 => some .evPeek
  | 0x31 => some .evRetire
  | 0x32 => some .evFree
  | 0x33 => some .evClear
  | 0x40 => some .faultRead
  | 0x41 => some .alertMask
  | 0x50 => some .profileWrite
  | 0x51 => some .profileRead
  | 0x60 => some .pair
  | 0x70 => some .partStatus
  | 0x71 => some .setSampling
  | 0x72 => some .trimSet
  | 0x73 => some .trimRead
  | 0x74 => some .trimProgram
  | 0x75 => some .deviceReset
  | _ => none

/-- The operand words of a PROFILE-WRITE: 6 + 2 × (stage count) for 1..12; any other count awaits none (R49). -/
def profileWriteWords (arg : Nibble) : Nat :=
  if 1 ≤ arg.toNat ∧ arg.toNat ≤ 12 then 6 + 2 * arg.toNat else 0

/-- The operand frames a header's command awaits (R180, 12.4). -/
def Cmd.operandWords (c : Cmd) (arg : Nibble) : Nat :=
  match c with
  | .drive | .setConv | .setSampling | .trimSet | .holdTime | .faultRead | .alertMask => 1
  | .profileWrite => profileWriteWords arg
  | .bind | .unbind | .start | .stop | .ack | .slotInit | .status | .summaryRead | .take | .release
  | .evPeek | .evRetire | .evFree | .evClear | .profileRead | .pair | .partStatus | .trimRead
  | .trimProgram | .deviceReset => 0

/-- The command a word spells by the table's bits: the table gives no row any bits (98_reader.md: rows with fixed bits 0,
rows with fields 0), so no word spells a command. -/
def decodeTableWord (_nbits _w : Nat) : Option Instr := none

end Sys2Proof
end

