-- ==== Sys2Proof/Machine/State.lean ====
section
/-!
DEFINITION. The state of the BX8: every piece of state spec/ gives the part, as plain data, with its value after the first
power-on (`State.reset`). The type's fields cite the rule that names them.
-/

namespace Sys2Proof.Machine

/-- What a slot is doing (1.2). -/
inductive SlotState where
  | idle | manual | runOn | runBleed | runRest | paused | drain | faulted
deriving DecidableEq, Repr

/-- Where a drain leads when it completes (1.1). -/
inductive DrainNext where
  | idle | faulted | restore
deriving DecidableEq, Repr

/-- Position within an on-phase (1.1). -/
inductive SubPhase where
  | lead | surge | soak
deriving DecidableEq, Repr

/-- The signature checker's condition (R57). -/
inductive Condition where
  | idle | walking | done | failed
deriving DecidableEq, Repr

/-- The four kinds of stage (R48). -/
inductive StageKind where
  | wait | rise | dip | band
deriving DecidableEq, Repr

/-- The on-fail actions CONTINUE, CUT and HALT (R47). -/
inductive OnFail where
  | carryOn | cut | halt
deriving DecidableEq, Repr

/-- The four causes of a signature failure (R68, R69). -/
inductive Cause where
  | window | limit | excursion | phaseEnd
deriving DecidableEq, Repr

/-- The verdict of a summary (R77, R85). -/
inductive Verdict where
  | pass | sigfail | trip | abort
deriving DecidableEq, Repr

/-- The four rounding modes (R87). -/
inductive Rounding where
  | nearestEven | down | up | zero
deriving DecidableEq, Repr

/-- What a push does on a VALID entry (R106, R107). -/
inductive StackPolicy where
  | keepNewest | keepOldest
deriving DecidableEq, Repr

/-- The mode of a pair (R133). -/
inductive PairMode where
  | separate | gang | dual
deriving DecidableEq, Repr

/-- The manual rail requests of a DUAL pair in MANUAL: (1,0) and (1,1) (R140, R143). -/
inductive Rails where
  | standbyOnly | both
deriving DecidableEq, Repr

/-- The channel a TRIP record names (R111). -/
inductive ChannelName where
  | self | lower | upper
deriving DecidableEq, Repr

/-- The kind of the most recent reset (R172). -/
inductive ResetCause where
  | power | line | command
deriving DecidableEq, Repr

/-- The tag of an evidence entry (R103). -/
inductive Tag where
  | empty | valid
deriving DecidableEq, Repr

/-- The status codes of R181. -/
inductive Status where
  | ok | clamped | empty | busy | notHolder | notPermitted | paired | unbound | inUse | pending | badArg | noRun
  | flagSet | shelfHold | exhausted | unknown
deriving DecidableEq, Repr

/-- A running phase timer: its duration in 0.1 s and the time elapsed in µs (1.1, R9). -/
structure Timer where
  duration : Nat
  elapsed : Nat
deriving DecidableEq, Repr

/-- The signature checker's state in a context (R57); `max` is the running maximum M. -/
structure Checker where
  condition : Condition
  stage : Nat
  j : Nat
  run : Nat
  armed : Bool
  max : Nat
deriving DecidableEq, Repr

/-- The checker's starting values (R57). -/
def Checker.initial : Checker :=
  { condition := .idle, stage := 0, j := 0, run := 0, armed := false, max := 0 }

/-- The conversion control of a context (R100). -/
structure ConvControl where
  rounding : Rounding
  meanUnmasked : Bool
  chargeUnmasked : Bool
  policy : StackPolicy
deriving DecidableEq, Repr

/-- NEAREST-EVEN, invalid conversions masked, KEEP-NEWEST (R1). -/
def ConvControl.initial : ConvControl :=
  { rounding := .nearestEven, meanUnmasked := false, chargeUnmasked := false, policy := .keepNewest }

/-- A cycle summary (R83) with the holder it records; `current` is the field I. -/
structure Summary where
  holder : Party
  profile : Fin 16
  cycle : Nat
  k : Nat
  current : Nat
  verdict : Verdict
  drifted : Bool
  last : Bool
  invMean : Bool
  invCharge : Bool
  inexact : Bool
  n : Nat
  peak : Nat
  mean : Nat
  charge : Nat
  drift : Option Int
deriving DecidableEq, Repr

/-- A slot context (1.1). -/
structure Context where
  state : SlotState
  drainNext : Option DrainNext
  bound : Option (Fin 16)
  d : Nat
  timer : Option Timer
  subPhase : Option SubPhase
  k : Nat
  checker : Checker
  n : Nat
  sum : Nat
  peak : Nat
  latest : Option Summary
  previous : Option Summary
  baseline : Option Nat
  conv : ConvControl
  openReported : Bool
deriving DecidableEq, Repr

/-- A context in its reset condition (R1). -/
def Context.reset : Context :=
  { state := .idle, drainNext := none, bound := none, d := 0, timer := none, subPhase := none, k := 0
    checker := Checker.initial, n := 0, sum := 0, peak := 0, latest := none, previous := none, baseline := none
    conv := ConvControl.initial, openReported := false }

/-- The own fields of the four record kinds (R111, R112, R113). -/
inductive RecordBody where
  | trip (channel : ChannelName) (current level : Nat)
  | sigfail (stage : Nat) (kind : StageKind) (cause : Cause) (max : Option Nat)
  | opened (threshold : Nat)
  | summary (verdict : Verdict) (drifted last invMean invCharge inexact : Bool) (n peak mean charge : Nat)
      (drift : Option Int)
deriving DecidableEq, Repr

/-- An evidence record: the common fields of R110 (the kind is the body's) and the kind's own. -/
structure Record where
  holder : Party
  afterLoss : Bool
  profile : Fin 16
  cycle : Nat
  k : Nat
  current : Nat
  body : RecordBody
deriving DecidableEq, Repr

/-- What an entry that no push has reached holds: no command can reach it (R103). DESIGN CHOICE, log entry 4. -/
def Record.blank : Record :=
  { holder := .rack, afterLoss := false, profile := 0, cycle := 0, k := 0, current := 0, body := .opened 0 }

/-- One place of the ring: a tag and a record (6, R103). -/
structure Entry where
  tag : Tag
  record : Record
deriving DecidableEq, Repr

/-- A flag F and two unseen marks for each of `n` fault kinds, in the bit order of the clear mask of 12.5 (R162). -/
structure Marks (n : Nat) where
  f : BitVec n
  uRack : BitVec n
  uBench : BitVec n
deriving DecidableEq, Repr

/-- Everything a slot keeps: its contexts (1.1, 9), its holder and hold timer (the time remaining in µs, R150), its
evidence stack and withheld summary (6, R95), its seven faults (R162) and its open count (7). -/
structure Slot where
  active : Context
  parked : Option Context
  holder : Party
  holdTimer : Option Nat
  stack : Vector Entry 8
  top : Fin 8
  withheld : Option Summary
  faults : Marks 7
  openCount : Nat
deriving DecidableEq, Repr

/-- A channel's sense chain (2) and trip count (7): the present current, the working and the stored trim and gain, and
how long the conversion in progress has run, in µs (R26 to R28). -/
structure Channel where
  present : Nat
  trim : Int
  gain : Nat
  storedTrim : Int
  storedGain : Nat
  tripCount : Nat
  conversion : Nat
deriving DecidableEq, Repr

/-- A pair's mode and manual rail requests (8). -/
structure Pair where
  mode : PairMode
  rails : Option Rails
deriving DecidableEq, Repr

/-- A signature stage (R48); `dd` is its debounce. -/
structure Stage where
  kind : StageKind
  dd : Nat
  window : Nat
  a : Nat
  b : Nat
deriving DecidableEq, Repr

/-- The fields of a profile record (3.2); a record with no stages is an empty profile's (R42). -/
structure ProfileRecord where
  surgeLimit : Nat
  soakLimit : Nat
  tripLevel : Nat
  openThreshold : Nat
  standbyLimit : Nat
  standbyTrip : Nat
  onTime : Nat
  offTime : Nat
  cycleCount : Nat
  driftLimit : Nat
  surgeCode : Nat
  bleed : Nat
  standbyLead : Nat
  tripDebounce : Nat
  action : OnFail
  stages : List Stage
deriving DecidableEq, Repr

/-- An empty profile: stage count 0, every other field 0 (R42). -/
def ProfileRecord.empty : ProfileRecord :=
  { surgeLimit := 0, soakLimit := 0, tripLevel := 0, openThreshold := 0, standbyLimit := 0, standbyTrip := 0
    onTime := 0, offTime := 0, cycleCount := 0, driftLimit := 0, surgeCode := 0, bleed := 0, standbyLead := 0
    tripDebounce := 0, action := .carryOn, stages := [] }

/-- A place of the profile store (3): a record and the use count (R53). -/
structure Profile where
  record : ProfileRecord
  useCount : Nat
deriving DecidableEq, Repr

/-- A programming of the trim store in progress: the time it has run, in µs, and the captured trims and gains (R35).
Trim busy is set exactly while there is one. -/
structure Programming where
  elapsed : Nat
  captured : Vector (Int × Nat) 8
deriving DecidableEq, Repr

/-- A port's alert mask over the twelve kinds, in the bit order of 12.5; 1 is masked (R170). -/
structure AlertMask where
  slotKinds : BitVec 7
  partKinds : BitVec 5
deriving DecidableEq, Repr

/-- A command being assembled: its header's fields and the operand words so far, in order (11). -/
structure Partial where
  code : Byte
  target : Nibble
  arg : Nibble
  words : List Word
deriving DecidableEq, Repr

/-- A port interface's state (11): the awaited count, the partial command, the reply queue, head first, and the previous
status, none being the no-command value. -/
structure Port where
  awaited : Nat
  partialCommand : Option Partial
  replies : List Word
  prevStatus : Option Status
deriving DecidableEq, Repr

/-- A port after a power-on or RESET-line reset (R185). -/
def Port.reset : Port := { awaited := 0, partialCommand := none, replies := [], prevStatus := none }

/-- The bench bus as the BX8 sees it (R177 to R179). -/
inductive Bus where
  /-- No transaction. -/
  | idle
  /-- A start condition has been given; the address byte is next. -/
  | addressing
  /-- A transaction addressed elsewhere, or begun before a reset: ignored until the next start condition. -/
  | ignored
  /-- A write transaction; the bytes of the unit begun so far, kind byte first, none between units. -/
  | writing (unit : List Byte)
  /-- A write transaction after a bad kind byte: nothing more is acknowledged. -/
  | rejected
  /-- A read transaction: whether the holder byte has been sent, how many bytes of the head word have been, and
  whether the bench station left the last byte unacknowledged. -/
  | reading (holderSent : Bool) (wordBytes : Nat) (finished : Bool)
deriving DecidableEq, Repr

/-- What the BX8 did last on BSDA: nothing, acknowledge a byte, leave one unacknowledged, or send one (R177). -/
inductive BenchLine where
  | released
  | acknowledged
  | unacknowledged
  | sent (b : Byte)
deriving DecidableEq, Repr

/-- The levels at the input pins (11.5): the shelf inputs and RESET as asserted or not, the logic supply as above its
threshold or not, and the address straps. -/
structure Pins where
  heat : Bool
  supplyLow : Bool
  reset : Bool
  logicSupply : Bool
  bad0 : Bool
  bad1 : Bool
deriving DecidableEq, Repr

/-- The state of the part, and the queue of commands and events that wait to be taken. -/
structure State where
  slots : Vector Slot 8
  channels : Vector Channel 8
  pairs : Vector Pair 4
  profiles : Vector Profile 16
  /-- The sampling divider (R28). -/
  sdiv : Nat
  /-- How many times the trim store has been programmed (R34). -/
  programCount : Nat
  programming : Option Programming
  /-- The hold-time setting in minutes (R151). -/
  holdSetting : Nat
  /-- HEAT, SUPPLY, RESTART, RLINK and BLINK (R162). -/
  partFaults : Marks 5
  rackMask : AlertMask
  benchMask : AlertMask
  resetCause : ResetCause
  /-- The live levels of HEAT and SUPPLY-LOW as last taken (7). -/
  heat : Bool
  supplyLow : Bool
  rack : Port
  bench : Port
  holderByte : Byte
  benchAddress : BitVec 7
  bus : Bus
  /-- The bits driven on RDO in the last rack frame, in clock order (R175, R176). -/
  rdo : List Bool
  benchLine : BenchLine
  pins : Pins
  /-- The MODEL's own: how many free values have been used. -/
  freeUsed : Nat
  /-- The MODEL's own: the commands and events that wait, first in, first out. -/
  pending : List Instr
deriving DecidableEq, Repr

/-- No step of the BX8 faults: the block stops at nothing (log entry 1). -/
inductive Fault where
deriving DecidableEq, Repr

/-- Why the model gives a command no meaning. -/
inductive Refusal where
  /-- Raised by an arm of `exec` for a row that has no meaning yet; safe. No arm raises it. -/
  | notModelled (mnemonic : String)
deriving DecidableEq, Repr

/-- A slot after any of the three resets (R1, R103, R161, R172, R132). -/
def Slot.reset : Slot :=
  { active := Context.reset, parked := none, holder := .rack, holdTimer := none
    stack := Vector.replicate 8 { tag := .empty, record := Record.blank }, top := 0, withheld := none
    faults := { f := 0, uRack := 0, uBench := 0 }, openCount := 0 }

/-- A channel after the first power-on, with the factory values of R34. -/
def Channel.factory : Channel :=
  { present := 0, trim := 0, gain := 512, storedTrim := 0, storedGain := 512, tripCount := 0, conversion := 0 }

/-- A pair after a reset (R133). -/
def Pair.reset : Pair := { mode := .separate, rails := none }

/-- The mask with every kind unmasked (R170). -/
def AlertMask.unmasked : AlertMask := { slotKinds := 0, partKinds := 0 }

/-- The part right after its first power-on, with HEAT and SUPPLY-LOW released, RESET released and both straps low (log
entry 3): RESTART is raised with both marks (R172), its bit being bit 2 of the part kinds. -/
def State.reset : State :=
  { slots := Vector.replicate 8 Slot.reset
    channels := Vector.replicate 8 Channel.factory
    pairs := Vector.replicate 4 Pair.reset
    profiles := Vector.replicate 16 { record := ProfileRecord.empty, useCount := 0 }
    sdiv := 249
    programCount := 0
    programming := none
    holdSetting := 15
    partFaults := { f := 0b00100, uRack := 0b00100, uBench := 0b00100 }
    rackMask := AlertMask.unmasked
    benchMask := AlertMask.unmasked
    resetCause := .power
    heat := false
    supplyLow := false
    rack := Port.reset
    bench := Port.reset
    holderByte := 0x00
    benchAddress := 0x5C
    bus := .idle
    rdo := []
    benchLine := .released
    pins := { heat := false, supplyLow := false, reset := false, logicSupply := true, bad0 := false, bad1 := false }
    freeUsed := 0
    pending := [] }

end Sys2Proof.Machine
end

