-- ==== Sys2Proof/Machine/Ops.lean ====
section
/-!
DEFINITION. The named operations over the part's state: slots, channels, pairs and profiles by number, governance of a
channel (R133), phase timers (R9), use counts (R53), and how a port answers a command (R182).
-/

namespace Sys2Proof.Machine

/-! ## Numbering -/

/-- The pair a slot or channel belongs to: pair p is slots 2p and 2p + 1 (R133). -/
def pairOf (i : Fin 8) : Fin 4 := ⟨i.val / 2, by omega⟩

/-- The lower slot of a pair, whose channel is x. -/
def lowerOf (p : Fin 4) : Fin 8 := ⟨2 * p.val, by omega⟩

/-- The upper slot of a pair, whose channel is y. -/
def upperOf (p : Fin 4) : Fin 8 := ⟨2 * p.val + 1, by omega⟩

/-- Whether a slot is the upper, odd, slot of its pair. -/
def isUpper (i : Fin 8) : Bool := i.val % 2 == 1

/-! ## Reading and changing one part of the state -/

def State.slot (s : State) (i : Fin 8) : Slot := s.slots[i]
def State.channel (s : State) (i : Fin 8) : Channel := s.channels[i]
def State.pair (s : State) (p : Fin 4) : Pair := s.pairs[p]
def State.profile (s : State) (p : Fin 16) : Profile := s.profiles[p]

/-- Change one slot. -/
def State.modSlot (s : State) (i : Fin 8) (f : Slot → Slot) : State :=
  { s with slots := s.slots.set i (f (s.slot i)) }

/-- Change one channel. -/
def State.modChannel (s : State) (i : Fin 8) (f : Channel → Channel) : State :=
  { s with channels := s.channels.set i (f (s.channel i)) }

/-- Change one pair. -/
def State.modPair (s : State) (p : Fin 4) (f : Pair → Pair) : State :=
  { s with pairs := s.pairs.set p (f (s.pair p)) }

/-- Change one place of the profile store. -/
def State.modProfile (s : State) (p : Fin 16) (f : Profile → Profile) : State :=
  { s with profiles := s.profiles.set p (f (s.profile p)) }

/-- Change one port interface. -/
def State.modPort (s : State) (p : Party) (f : Port → Port) : State :=
  match p with
  | .rack => { s with rack := f s.rack }
  | .bench => { s with bench := f s.bench }

/-- The port interface of a party. -/
def State.port (s : State) (p : Party) : Port :=
  match p with
  | .rack => s.rack
  | .bench => s.bench

/-! ## Conditions of the part -/

/-- The part is held while RESET is asserted or the logic supply is below its threshold (R183). -/
def State.held (s : State) : Bool := s.pins.reset || !s.pins.logicSupply

/-- A shelf hold is in force while HEAT or SUPPLY-LOW is asserted (R128). -/
def State.shelfHold (s : State) : Bool := s.heat || s.supplyLow

/-- The mode of the pair a slot belongs to. -/
def State.mode (s : State) (i : Fin 8) : PairMode := (s.pair (pairOf i)).mode

/-- A slot's pair is GANG or DUAL. -/
def State.isPaired (s : State) (i : Fin 8) : Bool := s.mode i != .separate

/-- The upper slot of a GANG or DUAL pair, which stands aside (R137). -/
def State.upperPaired (s : State) (i : Fin 8) : Bool := isUpper i && s.isPaired i

/-- The lower slot of a GANG or DUAL pair, which governs it (R133). -/
def State.lowerPaired (s : State) (i : Fin 8) : Bool := !isUpper i && s.isPaired i

/-- The slot whose active context governs a channel (R133); the slot a command's slot stands for when its hold timer is
restarted (R150). -/
def State.governor (s : State) (i : Fin 8) : Fin 8 := if s.isPaired i then lowerOf (pairOf i) else i

/-- Trim busy: a programming of the trim store is in progress (R35). -/
def State.trimBusy (s : State) : Bool := s.programming.isSome

/-- A party holds the whole part when it holds all eight slots (R160). -/
def State.holdsAll (s : State) (p : Party) : Bool := s.slots.toList.all fun sl => decide (sl.holder = p)

/-- The record of the profile a context is bound to; an unbound context reads an empty profile's zeros (log
entry 15). -/
def State.recordOf (s : State) (bound : Option (Fin 16)) : ProfileRecord :=
  match bound with
  | some p => (s.profile p).record
  | none => ProfileRecord.empty

/-- The record of the profile a slot's active context is bound to (R54). -/
def State.activeRecord (s : State) (i : Fin 8) : ProfileRecord := s.recordOf (s.slot i).active.bound

/-- The input current formed from the present currents, as R59 gives it for the pair's mode: the slot's own channel in
SEPARATE, Ix + Iy in GANG, Iy in DUAL. -/
def State.inputCurrent (s : State) (i : Fin 8) : Nat :=
  match s.mode i with
  | .separate => (s.channel i).present
  | .gang => (s.channel (lowerOf (pairOf i))).present + (s.channel (upperOf (pairOf i))).present
  | .dual => (s.channel (upperOf (pairOf i))).present

/-- What a slot engine, its checker and its summary unit read from the rest of the part at an event: the bound profile's
record, the pair's mode, SDIV and the input current. -/
structure Env where
  record : ProfileRecord
  mode : PairMode
  sdiv : Nat
  current : Nat
deriving DecidableEq, Repr

/-- The surroundings of a slot at this moment. -/
def State.env (s : State) (i : Fin 8) : Env :=
  { record := s.activeRecord i, mode := s.mode i, sdiv := s.sdiv, current := s.inputCurrent i }

/-! ## Phase timers and drains -/

/-- A timer that starts now (R9). -/
def Timer.start (duration : Nat) : Timer := { duration := duration, elapsed := 0 }

/-- The time remaining in units of 0.1 s, rounded up; 0 when the timer is stopped (R9). -/
def remainingTenths : Option Timer → Nat
  | none => 0
  | some t => (t.duration * Config.tenthUs - t.elapsed + (Config.tenthUs - 1)) / Config.tenthUs

/-- The rest part of the off-phase: off-time minus bleed (R45). -/
def ProfileRecord.rest (r : ProfileRecord) : Nat := r.offTime - r.bleed

/-- The duration of a drain: the bleed time, at least 0.1 s, and 0.1 s for an unbound context (R14). -/
def ProfileRecord.drainTime (r : ProfileRecord) : Nat := max r.bleed 1

/-- A profile is empty when it has no stages (R42). -/
def ProfileRecord.isEmpty (r : ProfileRecord) : Bool := r.stages.isEmpty

/-- Put a context into a state other than RUN-ON, with the phase timer given and no sub-phase (1.1, R9). -/
def Context.enter (c : Context) (st : SlotState) (timer : Option Timer) (next : Option DrainNext := none) : Context :=
  { c with state := st, timer := timer, drainNext := next, subPhase := none }

/-- The same on a slot's active context. -/
def Slot.enter (sl : Slot) (st : SlotState) (timer : Option Timer) (next : Option DrainNext := none) : Slot :=
  { sl with active := sl.active.enter st timer next }

/-! ## Holders -/

/-- The hold timer's full setting, in µs (R151). -/
def State.holdFull (s : State) : Nat := s.holdSetting * Config.minuteUs

/-- The time left on a hold timer in whole minutes, rounded up; 0 when it is stopped (R150). -/
def holdMinutes : Option Nat → Nat
  | none => 0
  | some us => (us + (Config.minuteUs - 1)) / Config.minuteUs

/-- A bench command that names a slot the bench holds restarts that slot's hold timer; one that names the upper slot of a
paired pair restarts the lower slot's (R150). -/
def State.restartHold (s : State) (p : Party) (i : Fin 8) : State :=
  if p = .bench ∧ (s.slot (s.governor i)).holder = .bench then
    s.modSlot (s.governor i) fun sl => { sl with holdTimer := some s.holdFull }
  else s

/-- Give a slot a holder; the upper slot of a GANG or DUAL pair changes with its lower slot (R137). -/
def State.setHolder (s : State) (i : Fin 8) (p : Party) : State :=
  let s := s.modSlot i fun sl => { sl with holder := p }
  if s.lowerPaired i then s.modSlot (upperOf (pairOf i)) fun sl => { sl with holder := p } else s

/-! ## Bindings and use counts -/

/-- A slot's active context gives up its binding and the profile's use count falls by one (R53). -/
def State.releaseBinding (s : State) (i : Fin 8) : State :=
  match (s.slot i).active.bound with
  | none => s
  | some p =>
    (s.modProfile p fun pr => { pr with useCount := pr.useCount - 1 }).modSlot i
      fun sl => { sl with active := { sl.active with bound := none } }

/-- A slot's active context is bound to a profile; rebinding the same one leaves the use count as it was (R4). -/
def State.bindTo (s : State) (i : Fin 8) (p : Fin 16) : State :=
  if (s.slot i).active.bound = some p then s
  else
    ((s.releaseBinding i).modProfile p fun pr => { pr with useCount := pr.useCount + 1 }).modSlot i
      fun sl => { sl with active := { sl.active with bound := some p } }

/-! ## Trip counts and rail requests -/

/-- The trip counts of every channel of a slot, or of its pair while paired, become 0 (R121). -/
def State.clearTrips (s : State) (i : Fin 8) : State :=
  if s.isPaired i then
    (s.modChannel (lowerOf (pairOf i)) fun c => { c with tripCount := 0 }).modChannel (upperOf (pairOf i))
      fun c => { c with tripCount := 0 }
  else s.modChannel i fun c => { c with tripCount := 0 }

/-- The manual rail requests become absent: the slot leaves MANUAL (R143). -/
def State.clearRails (s : State) (i : Fin 8) : State := s.modPair (pairOf i) fun p => { p with rails := none }

/-! ## Replies -/

/-- A command's reply: its status and the words that follow the status word (R182). -/
structure Reply where
  status : Status
  words : List Word
deriving DecidableEq, Repr

/-- A reply of the status word alone. -/
def Reply.bare (st : Status) : Reply := { status := st, words := [] }

/-- A reply of OK with report words. -/
def Reply.report (ws : List Word) : Reply := { status := .ok, words := ws }

/-- The status codes of 12.4. -/
def Status.code : Status → Byte
  | .ok => 0x00
  | .clamped => 0x01
  | .empty => 0x02
  | .busy => 0x10
  | .notHolder => 0x11
  | .notPermitted => 0x12
  | .paired => 0x13
  | .unbound => 0x14
  | .inUse => 0x15
  | .pending => 0x16
  | .badArg => 0x17
  | .noRun => 0x18
  | .flagSet => 0x19
  | .shelfHold => 0x1A
  | .exhausted => 0x1B
  | .unknown => 0x1F

/-- The slot a target field names: 0..7 (R3). -/
def slotOf (target : Nibble) : Option (Fin 8) :=
  if h : target.toNat < 8 then some ⟨target.toNat, h⟩ else none

/-- The profile a 4-bit field names: every value 0..15 names one. -/
def profileOf (t : Nibble) : Fin 16 := ⟨t.toNat, t.isLt⟩

end Sys2Proof.Machine
end

