-- ==== Sys2Proof/Machine/Operands.lean ====
section
/-!
DEFINITION. The layouts of 12_frame_and_record_layouts.md (R187): packing fields into reply words, reading fields from
operand words, and every operand form of 12.5 with the clamps of R32, R39, R43 to R46 and R151.
-/

namespace Sys2Proof.Machine

/-! ## Packing and unpacking -/

/-- An unsigned field of `width` bits placed at bit `lo` of a word (R187). -/
def field (width lo v : Nat) : Word := ((BitVec.ofNat width v).setWidth 32) <<< lo

/-- A one-bit field. -/
def flagAt (lo : Nat) (b : Bool) : Word := field 1 lo b.toNat

/-- A 16-bit two's complement field placed at bit `lo` (R187, signed fields). -/
def signedAt (lo : Nat) (v : Int) : Word := ((BitVec.ofInt 16 v).setWidth 32) <<< lo

/-- The field of `width` bits at bit `lo` of a word, unsigned. -/
def bitsOf (w : Word) (lo width : Nat) : Nat := (w.extractLsb' lo width).toNat

/-- The 16-bit two's complement field at bit `lo`. -/
def signedOf (w : Word) (lo : Nat) : Int := (w.extractLsb' lo 16).toInt

/-- A word of two 16-bit halves. -/
def halves (lo hi : Nat) : Word := field 16 0 lo ||| field 16 16 hi

/-- A value brought into a range: one outside it becomes the nearer end. -/
def clamp (lo hi v : Nat) : Nat := max lo (min hi v)

/-- The same for a signed value. -/
def clampInt (lo hi v : Int) : Int := max lo (min hi v)

/-- The status word of a reply (12.4). -/
def statusWord (st : Status) (code : Byte) (target : Nibble) (count : Nat) : Word :=
  field 8 0 st.code.toNat ||| field 8 8 code.toNat ||| field 4 16 target.toNat ||| field 6 20 count

/-- A port answers a command: its reply queue is replaced by the reply, and its previous status becomes the status code
(R182). A bench word sent in part does not stand in the new queue. -/
def State.answer (s : State) (p : Party) (code : Byte) (target : Nibble) (r : Reply) : State :=
  let s := s.modPort p fun port =>
    { port with replies := statusWord r.status code target r.words.length :: r.words, prevStatus := some r.status }
  match p, s.bus with
  | .bench, .reading h _ fin => { s with bus := .reading h 0 fin }
  | _, _ => s

/-- A command is taken at a port: its block acts, and the port answers with what the block reports (R181, R182). -/
def State.taken (s : State) (p : Party) (c : Cmd) (target : Nibble) (act : State → State × Reply) : State :=
  (act s).1.answer p c.code target (act s).2

/-! ## Operand forms -/

/-- What a DRIVE asks of a slot: nothing fed, the feed, the bleed, or in DUAL the standby rail alone (R17, R143). -/
inductive DriveForm where
  | float
  | feed (rails : Option Rails)
  | bleed
deriving DecidableEq, Repr

/-- The DRIVE operand for a pair's mode, read as one whole value; none is BAD-ARG (12.5). -/
def driveForm (mode : PairMode) (op : Word) : Option DriveForm :=
  match mode, op.toNat with
  | .dual, 0 => some .float
  | .dual, 1 => some (.feed (some .standbyOnly))
  | .dual, 2 => some .bleed
  | .dual, 3 => some (.feed (some .both))
  | .dual, _ => none
  | _, 0 => some .float
  | _, 1 => some (.feed none)
  | _, 2 => some .bleed
  | _, _ => none

/-- The rounding modes' codes (12.5). -/
def roundingOf : Nat → Rounding
  | 0 => .nearestEven
  | 1 => .down
  | 2 => .up
  | _ => .zero

/-- The SET-CONV operand (12.5); every combination is valid (R100). -/
def convOf (op : Word) : ConvControl :=
  { rounding := roundingOf (bitsOf op 0 2)
    meanUnmasked := op.getLsbD 4
    chargeUnmasked := op.getLsbD 5
    policy := if op.getLsbD 8 then .keepOldest else .keepNewest }

/-- The TRIM-SET operand's trim, carried, signed in bits 31..16. -/
def trimCarried (op : Word) : Int := signedOf op 16

/-- The TRIM-SET operand's gain, carried, unsigned in bits 15..0. -/
def gainCarried (op : Word) : Nat := bitsOf op 0 16

/-- The trim clamped to −16..+15 (R32). -/
def trimStored (op : Word) : Int := clampInt (-16) 15 (trimCarried op)

/-- The gain clamped to 0..1023 (R32). -/
def gainStored (op : Word) : Nat := clamp 0 1023 (gainCarried op)

/-- The divider clamped to 24..1023 (R39). -/
def sdivStored (op : Word) : Nat := clamp 24 1023 op.toNat

/-- The minutes clamped to 1..120 (R151). -/
def minutesStored (op : Word) : Nat := clamp 1 120 op.toNat

/-- The slot kinds a FAULT-READ operand names (12.5). -/
def slotClearMask (op : Word) : BitVec 7 := op.extractLsb' 0 7

/-- The part kinds a FAULT-READ operand names (12.5). -/
def partClearMask (op : Word) : BitVec 5 := op.extractLsb' 0 5

/-- The ALERT-MASK operand (12.5). -/
def alertMaskOf (op : Word) : AlertMask := { slotKinds := op.extractLsb' 0 7, partKinds := op.extractLsb' 8 5 }

/-! ## Profile words -/

/-- The stage kinds' codes (12.5). -/
def StageKind.code : StageKind → Nat
  | .wait => 0
  | .rise => 1
  | .dip => 2
  | .band => 3

def stageKindOf : Nat → StageKind
  | 0 => .wait
  | 1 => .rise
  | 2 => .dip
  | _ => .band

/-- The on-fail codes (12.5); the fourth names none (R47). -/
def OnFail.code : OnFail → Nat
  | .carryOn => 0
  | .cut => 1
  | .halt => 2

def onFailOf : Nat → Option OnFail
  | 0 => some .carryOn
  | 1 => some .cut
  | 2 => some .halt
  | _ => none

/-- A stage as its two words carry it (12.5). -/
def stageCarried (w1 w2 : Word) : Stage :=
  { kind := stageKindOf (bitsOf w1 0 2), dd := bitsOf w1 2 6, window := bitsOf w1 16 16
    a := bitsOf w2 0 16, b := bitsOf w2 16 16 }

/-- The stages carried by the words after the first six, two words a stage. -/
def stagesCarried : List Word → List Stage
  | w1 :: w2 :: rest => stageCarried w1 w2 :: stagesCarried rest
  | _ => []

/-- The record as its operand words carry it (12.5). The on-fail action is read apart (`onFailOf`), the fourth code being
refused; `action` says which of the three it is. -/
def recordCarried (ws : List Word) (action : OnFail) : ProfileRecord :=
  let w (i : Nat) : Word := ws.getD i 0
  { surgeLimit := bitsOf (w 0) 0 16, soakLimit := bitsOf (w 0) 16 16
    tripLevel := bitsOf (w 1) 0 16, openThreshold := bitsOf (w 1) 16 16
    standbyLimit := bitsOf (w 2) 0 16, standbyTrip := bitsOf (w 2) 16 16
    onTime := bitsOf (w 3) 0 16, offTime := bitsOf (w 3) 16 16
    cycleCount := bitsOf (w 4) 0 16, driftLimit := bitsOf (w 4) 16 16
    surgeCode := bitsOf (w 5) 0 8, bleed := bitsOf (w 5) 8 8, standbyLead := bitsOf (w 5) 16 8
    tripDebounce := bitsOf (w 5) 24 6, action := action, stages := stagesCarried (ws.drop 6) }

/-- A level clamped to 0..32767 (R43). -/
def levelStored (v : Nat) : Nat := clamp 0 32767 v

/-- A debounce clamped to 1..15 (R46). -/
def debounceStored (v : Nat) : Nat := clamp 1 15 v

/-- A stage as the store keeps it (R43, R46, R48). -/
def Stage.stored (st : Stage) : Stage :=
  { st with dd := debounceStored st.dd, window := max 1 st.window, a := levelStored st.a, b := levelStored st.b }

/-- A record as the store keeps it: clamped field by field (R43, R46), then the relations of R44 and R45 applied to the
clamped values. -/
def ProfileRecord.stored (r : ProfileRecord) : ProfileRecord :=
  { r with
    surgeLimit := levelStored r.surgeLimit
    soakLimit := levelStored r.soakLimit
    tripLevel := max (levelStored r.tripLevel) (max (levelStored r.surgeLimit) (levelStored r.soakLimit))
    openThreshold := levelStored r.openThreshold
    standbyLimit := levelStored r.standbyLimit
    standbyTrip := max (levelStored r.standbyTrip) (levelStored r.standbyLimit)
    driftLimit := levelStored r.driftLimit
    bleed := min r.bleed r.offTime
    standbyLead := min r.standbyLead (r.onTime - 1)
    tripDebounce := debounceStored r.tripDebounce
    stages := r.stages.map Stage.stored }

/-- A BAND stage whose carried A is greater than its carried B (R48). -/
def Stage.badBand (st : Stage) : Bool := decide (st.kind = .band) && decide (st.b < st.a)

/-- The six record words and the stage words of a stored record, in the layout of PROFILE-WRITE (R55, 12.5). -/
def ProfileRecord.words (r : ProfileRecord) : List Word :=
  [ halves r.surgeLimit r.soakLimit, halves r.tripLevel r.openThreshold, halves r.standbyLimit r.standbyTrip,
    halves r.onTime r.offTime, halves r.cycleCount r.driftLimit,
    field 8 0 r.surgeCode ||| field 8 8 r.bleed ||| field 8 16 r.standbyLead ||| field 6 24 r.tripDebounce
      ||| field 2 30 r.action.code ]
  ++ r.stages.flatMap fun st =>
      [field 2 0 st.kind.code ||| field 6 2 st.dd ||| field 16 16 st.window, halves st.a st.b]

end Sys2Proof.Machine
end

