-- ==== Sys2Proof/Machine/Flags.lean ====
section
/-!
DEFINITION. The fault table's flags and unseen marks (R162), the alert lines (R171) and the rack line's alert summary
(R175).
-/

namespace Sys2Proof.Machine

/-- The seven slot kinds, by their bit in the slot clear mask of 12.5. -/
inductive SlotFault where
  | trip | opened | signature | drift | stack | conv | expiry
deriving DecidableEq, Repr

/-- The five part kinds, by their bit in the part clear mask of 12.5. -/
inductive PartFault where
  | heat | supply | restart | rlink | blink
deriving DecidableEq, Repr

def SlotFault.bit : SlotFault → Nat
  | .trip => 0
  | .opened => 1
  | .signature => 2
  | .drift => 3
  | .stack => 4
  | .conv => 5
  | .expiry => 6

def PartFault.bit : PartFault → Nat
  | .heat => 0
  | .supply => 1
  | .restart => 2
  | .rlink => 3
  | .blink => 4

/-- Every flag and mark clear. -/
def Marks.clear (n : Nat) : Marks n := { f := 0, uRack := 0, uBench := 0 }

/-- An occurrence sets F and both unseen marks of its kind (R162). -/
def Marks.raise {n : Nat} (m : Marks n) (bit : Nat) : Marks n :=
  let one : BitVec n := BitVec.twoPow n bit
  { f := m.f ||| one, uRack := m.uRack ||| one, uBench := m.uBench ||| one }

/-- The flag F of a kind. -/
def Marks.flag {n : Nat} (m : Marks n) (bit : Nat) : Bool := m.f.getLsbD bit

/-- Clear the flag F of the kinds a mask names. -/
def Marks.clearFlags {n : Nat} (m : Marks n) (mask : BitVec n) : Marks n := { m with f := m.f &&& ~~~mask }

/-- Clear one party's unseen marks of the kinds a mask names (R165). -/
def Marks.clearMarks {n : Nat} (m : Marks n) (p : Party) (mask : BitVec n) : Marks n :=
  match p with
  | .rack => { m with uRack := m.uRack &&& ~~~mask }
  | .bench => { m with uBench := m.uBench &&& ~~~mask }

/-- A party's unseen marks. -/
def Marks.unseen {n : Nat} (m : Marks n) (p : Party) : BitVec n :=
  match p with
  | .rack => m.uRack
  | .bench => m.uBench

/-- The FAULT-READ report: F, U-rack and U-bench at bits 0, 8 and 16 (12.6). -/
def Marks.word {n : Nat} (m : Marks n) : Word :=
  field n 0 m.f.toNat ||| field n 8 m.uRack.toNat ||| field n 16 m.uBench.toNat

/-- A slot fault occurs. -/
def Slot.raise (sl : Slot) (k : SlotFault) : Slot := { sl with faults := sl.faults.raise k.bit }

/-- The flag F of a slot fault. -/
def Slot.flag (sl : Slot) (k : SlotFault) : Bool := sl.faults.flag k.bit

/-- The OPEN flag F is cleared and its unseen marks are left (R7, R18). -/
def Slot.clearOpenFlag (sl : Slot) : Slot :=
  { sl with faults := sl.faults.clearFlags (BitVec.twoPow 7 SlotFault.opened.bit) }

/-- A part fault occurs. -/
def State.raisePart (s : State) (k : PartFault) : State := { s with partFaults := s.partFaults.raise k.bit }

/-- A port's link fault occurs: RLINK or BLINK (R163). -/
def State.raiseLink (s : State) (p : Party) : State :=
  match p with
  | .rack => s.raisePart .rlink
  | .bench => s.raisePart .blink

/-- A port's alert mask. -/
def State.mask (s : State) (p : Party) : AlertMask :=
  match p with
  | .rack => s.rackMask
  | .bench => s.benchMask

/-- A slot holds an unseen mark of a party for a kind that party's mask leaves unmasked. -/
def State.slotAlert (s : State) (p : Party) (i : Fin 8) : Bool :=
  ((s.slot i).faults.unseen p &&& ~~~(s.mask p).slotKinds) != 0

/-- The same for the part kinds. -/
def State.partAlert (s : State) (p : Party) : Bool :=
  (s.partFaults.unseen p &&& ~~~(s.mask p).partKinds) != 0

/-- A port's alert line, RACK-ALERT or BENCH-ALERT: asserted exactly when that port has an unseen mark set for a kind its
mask leaves unmasked (R171), and released while the part is held (R183). -/
def State.alertLine (s : State) (p : Party) : Bool :=
  !s.held && (s.partAlert p || (List.finRange 8).any fun i => s.slotAlert p i)

/-- The alert summary's bit n is slot n's: a U-rack mark for a kind the rack's mask leaves unmasked (R175). -/
def State.alertSummary (s : State) : Byte :=
  (List.finRange 8).foldl (fun acc i => acc ||| (if s.slotAlert .rack i then BitVec.twoPow 8 i.val else 0)) 0

end Sys2Proof.Machine
end

