-- ==== Sys2Proof/Machine/Evidence.lean ====
section
/-!
DEFINITION. Evidence stacks (06_evidence_stacks.md): pushes under the stack policies, depths, the record words of 12.7.
The commands EV-PEEK, EV-RETIRE, EV-FREE and EV-CLEAR stand in Machine/Stacks.lean.
-/

namespace Sys2Proof.Machine

/-- The position of a depth: (TOP + depth) mod 8 (R104). -/
def Slot.position (sl : Slot) (depth : Fin 8) : Fin 8 := sl.top + depth

/-- The entry at a depth. -/
def Slot.entryAt (sl : Slot) (depth : Fin 8) : Entry := sl.stack[sl.position depth]

/-- The position the next push reaches: (TOP − 1) mod 8 (R105). -/
def Slot.pushPosition (sl : Slot) : Fin 8 := sl.top - 1

/-- The number of VALID entries (R104). -/
def Slot.validCount (sl : Slot) : Nat := sl.stack.toList.countP fun e => decide (e.tag = .valid)

/-- Write a record at the position a push reaches, with its after-loss mark, and move TOP there. -/
def Slot.writePushed (sl : Slot) (r : Record) (afterLoss : Bool) : Slot :=
  { sl with
    stack := sl.stack.set sl.pushPosition { tag := .valid, record := { r with afterLoss := afterLoss } }
    top := sl.pushPosition }

/-- Push a record under the active context's stack policy (R105). On a VALID entry the push overflows: KEEP-NEWEST
overwrites it and marks the new record (R106), KEEP-OLDEST discards the new record (R107), and either raises the STACK
fault (R108). -/
def Slot.push (sl : Slot) (r : Record) : Slot :=
  match (sl.stack[sl.pushPosition]).tag, sl.active.conv.policy with
  | .empty, _ => sl.writePushed r false
  | .valid, .keepNewest => (sl.writePushed r true).raise .stack
  | .valid, .keepOldest => sl.raise .stack

/-- Tag the entry at a depth EMPTY; its record stays behind, out of reach (R103, R116, R117). -/
def Slot.freeDepth (sl : Slot) (depth : Fin 8) : Slot :=
  { sl with stack := sl.stack.set (sl.position depth) { (sl.entryAt depth) with tag := .empty } }

/-- Every entry EMPTY and TOP 0 (R103, R118). -/
def Slot.clearStack (sl : Slot) : Slot :=
  { sl with stack := Vector.ofFn fun i => { (sl.stack[i]) with tag := .empty }, top := 0 }

/-- The cycle index of the on-phase: D + 1, held at 65535 (1.1). -/
def Context.cycleIndex (c : Context) : Nat := min (c.d + 1) 65535

/-- The bound profile's number; a context with no binding makes no record (R110). -/
def Context.profileId (c : Context) : Fin 16 := c.bound.getD 0

/-- A record made by the slot now, with the common fields of R110; a record made in MANUAL has cycle index 0. -/
def Slot.makeRecord (sl : Slot) (current : Nat) (body : RecordBody) : Record :=
  { holder := sl.holder, afterLoss := false, profile := sl.active.profileId
    cycle := if sl.active.state = .manual then 0 else sl.active.cycleIndex
    k := sl.active.k, current := current, body := body }

/-- The SUMMARY record of a summary (R94, R113). -/
def Summary.toRecord (m : Summary) : Record :=
  { holder := m.holder, afterLoss := false, profile := m.profile, cycle := m.cycle, k := m.k, current := m.current
    body := .summary m.verdict m.drifted m.last m.invMean m.invCharge m.inexact m.n m.peak m.mean m.charge m.drift }

/-! ## Record words (12.7) -/

def Verdict.code : Verdict → Nat
  | .pass => 0
  | .sigfail => 1
  | .trip => 2
  | .abort => 3

def Cause.code : Cause → Nat
  | .window => 0
  | .limit => 1
  | .excursion => 2
  | .phaseEnd => 3

def ChannelName.code : ChannelName → Nat
  | .self => 0
  | .lower => 1
  | .upper => 2

def partyCode : Party → Nat
  | .rack => 0
  | .bench => 1

def RecordBody.kindCode : RecordBody → Nat
  | .trip .. => 1
  | .sigfail .. => 2
  | .opened .. => 3
  | .summary .. => 4

/-- A record kind's own words. -/
def RecordBody.words : RecordBody → List Word
  | .trip ch current level => [field 16 0 level ||| field 14 16 current ||| field 2 30 ch.code]
  | .sigfail stage kind cause m =>
    [ field 4 0 stage ||| field 2 4 kind.code ||| field 2 8 cause.code ||| flagAt 15 m.isSome, field 16 0 (m.getD 0) ]
  | .opened threshold => [field 16 0 threshold]
  | .summary verdict drifted last invMean invCharge inexact n peak mean charge drift =>
    [ field 2 0 verdict.code ||| flagAt 4 drifted ||| flagAt 5 last ||| flagAt 6 invMean ||| flagAt 7 invCharge
        ||| flagAt 8 inexact ||| flagAt 15 drift.isSome ||| signedAt 16 (drift.getD 0),
      field 32 0 n, halves peak mean, field 16 0 charge ]

/-- The words of a record: three common words, then the kind's own. -/
def Record.words (r : Record) : List Word :=
  [ field 3 0 r.body.kindCode ||| field 1 3 (partyCode r.holder) ||| flagAt 4 r.afterLoss ||| field 4 8 r.profile.val
      ||| field 16 16 r.cycle,
    field 32 0 r.k, field 16 0 r.current ]
  ++ r.body.words

end Sys2Proof.Machine
end

