-- ==== Sys2Proof/Machine/Summaries.lean ====
section
/-!
DEFINITION. Cycle summaries and report arithmetic (05_cycle_summaries_and_report_arithmetic.md): rounding, the three
conversions, the baseline, notability, and withheld summaries.
-/

namespace Sys2Proof.Machine

/-- Round the ratio of two whole numbers, the second above 0, by a rounding mode (R87). -/
def roundRatio (m : Rounding) (num : Int) (den : Nat) : Int :=
  let q := num / (den : Int)
  let r := num % (den : Int)
  match m with
  | .down => q
  | .up => if r = 0 then q else q + 1
  | .zero => if r = 0 ∨ 0 ≤ num then q else q + 1
  | .nearestEven =>
    if 2 * r < den then q
    else if (den : Int) < 2 * r then q + 1
    else if q % 2 = 0 then q else q + 1

/-- Whether a ratio is a whole number. -/
def ratioWhole (num : Int) (den : Nat) : Bool := decide (num % (den : Int) = 0)

/-- The charge's exact value is S × 4 × (SDIV + 1) over 100,000,000, in 0.1 C (R89). -/
def chargeNumerator (sum sdiv : Nat) : Nat := sum * 4 * (sdiv + 1)

def chargeDenominator : Nat := 100000000

/-- The rounded charge, before its range is checked (R89). -/
def roundedCharge (m : Rounding) (sum sdiv : Nat) : Nat :=
  (roundRatio m (chargeNumerator sum sdiv) chargeDenominator).toNat

/-- The drift's exact value is (16 × S − baseline × n) over 16 × n, in mA (R90). -/
def driftNumerator (sum n baseline : Nat) : Int := 16 * (sum : Int) - (baseline : Int) * (n : Int)

/-- The drift of an on-phase: absent where the baseline is absent or the mean invalid (R90). -/
def driftOf (m : Rounding) (sum n : Nat) (baseline : Option Nat) : Option Int :=
  match baseline with
  | none => none
  | some b => if n = 0 then none else some (roundRatio m (driftNumerator sum n b) (16 * n))

/-- The drift exceeds a nonzero limit (R93). -/
def driftExceeds (drift : Option Int) (limit : Nat) : Bool :=
  match drift with
  | none => false
  | some d => decide (limit ≠ 0) && decide (limit < d.natAbs)

/-- The baseline a PASS on-phase sets: 16 × S / n, to the nearest, halves to even (R92). -/
def baselineOf (sum n : Nat) : Nat := (roundRatio .nearestEven (16 * (sum : Int)) n).toNat

/-- The INX flag: a valid converted field had an exact value that was not whole (R87). -/
def inexactOf (sum n sdiv : Nat) (invCharge : Bool) (baseline : Option Nat) : Bool :=
  (decide (n ≠ 0) && !ratioWhole sum n)
  || (!invCharge && !ratioWhole (chargeNumerator sum sdiv) chargeDenominator)
  || (match baseline with
      | none => false
      | some b => decide (n ≠ 0) && !ratioWhole (driftNumerator sum n b) (16 * n))

/-- The summary of the on-phase a context is ending (R83, R84 steps 1 to 3). -/
def summaryOf (env : Env) (holder : Party) (c : Context) (verdict : Verdict) (last : Bool) : Summary :=
  let m := c.conv.rounding
  let invMean := decide (c.n = 0)
  let charge := roundedCharge m c.sum env.sdiv
  let invCharge := decide (65534 < charge)
  let drift := driftOf m c.sum c.n c.baseline
  { holder := holder, profile := c.profileId, cycle := c.cycleIndex, k := c.k, current := env.current
    verdict := verdict, drifted := driftExceeds drift env.record.driftLimit, last := last
    invMean := invMean, invCharge := invCharge, inexact := inexactOf c.sum c.n env.sdiv invCharge c.baseline
    n := c.n, peak := c.peak
    mean := if invMean then Config.indefinite else (roundRatio m c.sum c.n).toNat
    charge := if invCharge then Config.indefinite else charge
    drift := drift }

/-- A summary is notable when its verdict is not PASS or one of DRIFT, LAST, INV-MEAN and INV-CHARGE is set (R94). -/
def Summary.notable (m : Summary) : Bool :=
  decide (m.verdict ≠ .pass) || m.drifted || m.last || m.invMean || m.invCharge

/-- A summary carries an invalid flag whose field is unmasked (R95). -/
def Summary.unmaskedInvalid (m : Summary) (conv : ConvControl) : Bool :=
  (m.invMean && conv.meanUnmasked) || (m.invCharge && conv.chargeUnmasked)

/-- Latest and Previous shift (R86), and the first PASS summary with samples sets the baseline (R92). -/
def Context.shiftSummary (c : Context) (m : Summary) : Context :=
  { c with
    previous := c.latest, latest := some m
    baseline := if m.verdict = .pass ∧ 0 < c.n ∧ c.baseline = none then some (baselineOf c.sum c.n) else c.baseline }

/-- Where a summary goes beyond Latest: nowhere, onto the stack, aside as the withheld summary with CONV raised, or, where
one is withheld already, onto the stack with CONV raised again (R94, R95, R97). -/
def Slot.fileSummary (sl : Slot) (m : Summary) : Slot :=
  if m.notable then
    if m.unmaskedInvalid sl.active.conv then
      match sl.withheld with
      | none => { sl with withheld := some m }.raise .conv
      | some _ => (sl.push m.toRecord).raise .conv
    else sl.push m.toRecord
  else sl

/-- The DRIFT fault of a summary whose drift exceeds its limit (R93). -/
def Slot.raiseDrift (sl : Slot) (m : Summary) : Slot := if m.drifted then sl.raise .drift else sl

/-- The summary unit's work at the end of an on-phase, in the order of R84. -/
def Slot.formSummary (sl : Slot) (env : Env) (verdict : Verdict) (last : Bool) : Slot :=
  let m := summaryOf env sl.holder sl.active verdict last
  let sl := sl.raiseDrift m
  { sl with active := sl.active.shiftSummary m }.fileSummary m

/-- The withheld summary is pushed under the active context's policy, and the slot stops being pending (R98, R109). -/
def Slot.releaseWithheld (sl : Slot) : Slot :=
  match sl.withheld with
  | none => sl
  | some m => { sl with withheld := none }.push m.toRecord

end Sys2Proof.Machine
end

