-- ==== Sys2Proof/Machine/Checker.lean ====
section
/-!
DEFINITION. The signature checker (04_the_signature_checker.md): the four stage kinds, the walk, and what a failure does.
-/

namespace Sys2Proof.Machine

/-- What a stage decides at a sample (R62). -/
inductive StageResult where
  | pass
  | fail (cause : Cause)
  | open
deriving DecidableEq, Repr

/-- A WAIT stage passes when j equals W (R63); j has risen. -/
def Stage.wait (st : Stage) (c : Checker) : Checker × StageResult :=
  (c, if c.j = st.window then .pass else .open)

/-- A RISE stage counts consecutive samples at or above A; reaching Dd stands before WINDOW (R64). -/
def Stage.rise (st : Stage) (current : Nat) (c : Checker) : Checker × StageResult :=
  let c := { c with run := if st.a ≤ current then c.run + 1 else 0 }
  (c, if c.run = st.dd then .pass else if c.j = st.window then .fail .window else .open)

/-- The depth of a DIP stage: B, a stored 0 taken as 1 (R66). -/
def Stage.depth (st : Stage) : Nat := if st.b = 0 then 1 else st.b

/-- A DIP stage's counters after a sample that did not fail LIMIT: it arms at A (R65), then follows the maximum and
counts the descent (R66). -/
def Stage.follow (st : Stage) (current : Nat) (c : Checker) : Checker :=
  if c.armed then
    if c.max < current then { c with max := current, run := 0 }
    else if current + st.depth ≤ c.max then { c with run := c.run + 1 }
    else { c with run := 0 }
  else if st.a ≤ current then { c with armed := true, max := current, run := 0 }
  else c

/-- A DIP stage: the LIMIT test on every sample, then the arming or the descent, then WINDOW (R65, R66). -/
def Stage.dip (st : Stage) (limit current : Nat) (c : Checker) : Checker × StageResult :=
  if limit ≤ current then (c, .fail .limit)
  else
    let c' := st.follow current c
    (c', if c.armed ∧ c'.run = st.dd then .pass else if c'.j = st.window then .fail .window else .open)

/-- A BAND stage counts consecutive samples outside [A, B]; EXCURSION stands before the pass at j = W (R67). -/
def Stage.band (st : Stage) (current : Nat) (c : Checker) : Checker × StageResult :=
  let c := { c with run := if current < st.a ∨ st.b < current then c.run + 1 else 0 }
  (c, if c.run = st.dd then .fail .excursion else if c.j = st.window then .pass else .open)

/-- The open stage's work on a sample: j rises, then the test of its kind (R62). -/
def Stage.takeSample (st : Stage) (limit current : Nat) (c : Checker) : Checker × StageResult :=
  let c := { c with j := c.j + 1 }
  match st.kind with
  | .wait => st.wait c
  | .rise => st.rise current c
  | .dip => st.dip limit current c
  | .band => st.band current c

/-- The walk after the open stage's work: the next stage opens, the walk is DONE, or it has FAILED (R61, R68). -/
def Checker.advance (c : Checker) (stageCount : Nat) : StageResult → Checker
  | .open => c
  | .fail _ => { c with condition := .failed }
  | .pass =>
    if c.stage + 1 = stageCount then { c with condition := .done }
    else { Checker.initial with condition := .walking, stage := c.stage + 1 }

/-- The checker takes a counted sample while its condition is IDLE or WALKING (R58); the second part is the cause of a
failure at this sample. -/
def Checker.step (c : Checker) (stages : List Stage) (limit current : Nat) : Checker × Option Cause :=
  match c.condition, stages[c.stage]? with
  | .done, _ => (c, none)
  | .failed, _ => (c, none)
  | _, none => (c, none)
  | _, some st =>
    let r := st.takeSample limit current { c with condition := .walking }
    (r.1.advance stages.length r.2,
      match r.2 with
      | .fail cause => some cause
      | _ => none)

/-- The SIGFAIL record's own fields: the open stage, and M for a DIP stage alone (R69). -/
def sigfailBody (stages : List Stage) (c : Checker) (cause : Cause) : RecordBody :=
  let kind := ((stages[c.stage]?).map Stage.kind).getD .wait
  .sigfail c.stage kind cause (if kind = .dip then some c.max else none)

/-- A failure of the open stage, in the order of R68: FAILED, the SIGNATURE fault, the SIGFAIL record. -/
def Slot.failStage (sl : Slot) (env : Env) (cause : Cause) : Slot :=
  let sl := { sl with active := { sl.active with checker := { sl.active.checker with condition := .failed } } }
  let sl := sl.raise .signature
  sl.push (sl.makeRecord env.current (sigfailBody env.record.stages sl.active.checker cause))

/-- At the on-time expiry an unfinished walk fails PHASE-END (R74). -/
def Slot.closeWalk (sl : Slot) (env : Env) : Slot :=
  match sl.active.checker.condition with
  | .idle | .walking => sl.failStage env .phaseEnd
  | .done | .failed => sl

/-- The verdict at an on-time expiry: PASS for a walk that is DONE, else SIGFAIL (R77). -/
def Context.expiryVerdict (c : Context) : Verdict := if c.checker.condition = .done then .pass else .sigfail

end Sys2Proof.Machine
end

