-- ==== Sys2Proof/Machine/Engine.lean ====
section
/-!
DEFINITION. The slot engine (01_slots_and_power_cycles.md): on-phases and off-phases, draining, pausing and resuming,
parking and restoring, and the events ON_TIME_EXPIRY, BLEED_EXPIRY, REST_EXPIRY, END_OF_LEAD and DRAIN_COMPLETION.
-/

namespace Sys2Proof.Machine

/-! ## The on-phase -/

/-- The sub-phase at the start of the main feed (R8). -/
def ProfileRecord.firstSubPhase (r : ProfileRecord) : SubPhase := if r.surgeCode = 0 then .soak else .surge

/-- The counted sample k is a SURGE sample (R8). -/
def ProfileRecord.isSurge (r : ProfileRecord) (k : Nat) : Bool :=
  decide (r.surgeCode = 255) || decide (k ≤ 16 * r.surgeCode)

/-- The sub-phase once counted sample k has been taken: SOAK from the sample that closes SURGE (R8). -/
def ProfileRecord.subPhaseAfter (r : ProfileRecord) (k : Nat) : SubPhase :=
  if r.surgeCode = 255 ∨ k < 16 * r.surgeCode then .surge else .soak

/-- A context at the beginning of an on-phase (R7). A DUAL on-phase with a standby lead begins in LEAD (R141). -/
def Context.beginOnPhase (c : Context) (r : ProfileRecord) (mode : PairMode) : Context :=
  { c with
    state := .runOn, drainNext := none, timer := some (Timer.start r.onTime)
    subPhase := some (if mode = .dual ∧ 0 < r.standbyLead then .lead else r.firstSubPhase)
    k := 0, n := 0, sum := 0, peak := 0, checker := Checker.initial, openReported := false }

/-- A slot at the beginning of an on-phase: its OPEN flag and its open count are cleared too (R7, R126). -/
def Slot.beginOnPhase (sl : Slot) (r : ProfileRecord) (mode : PairMode) : Slot :=
  { sl with active := sl.active.beginOnPhase r mode, openCount := 0 }.clearOpenFlag

/-- An on-phase begins: its channels' trip counts become 0 (R121). -/
def State.beginOnPhase (s : State) (i : Fin 8) : State :=
  (s.modSlot i fun sl => sl.beginOnPhase (s.activeRecord i) (s.mode i)).clearTrips i

/-- The rest part of the off-phase, or the next on-phase at once where it is 0 (R12). -/
def State.enterRest (s : State) (i : Fin 8) : State :=
  let rest := (s.activeRecord i).rest
  if rest = 0 then s.beginOnPhase i
  else s.modSlot i fun sl => sl.enter .runRest (some (Timer.start rest))

/-- A run is complete when its profile's cycle count is not 0 and D equals it (R12, R20, R156). -/
def runComplete (r : ProfileRecord) (c : Context) : Bool := decide (r.cycleCount ≠ 0) && decide (c.d = r.cycleCount)

/-- The on-phase completes the run: the cycle count is not 0 and D + 1 equals it (R10). -/
def completesRun (r : ProfileRecord) (c : Context) : Bool :=
  decide (r.cycleCount ≠ 0) && decide (c.d + 1 = r.cycleCount)

/-- What follows an on-phase that ended by on-time expiry or CUT (R12). -/
def State.enterOffPhase (s : State) (i : Fin 8) : State :=
  let r := s.activeRecord i
  if r.bleed ≠ 0 then s.modSlot i fun sl => sl.enter .runBleed (some (Timer.start r.bleed))
  else if runComplete r (s.slot i).active then s.modSlot i fun sl => sl.enter .idle none
  else s.enterRest i

/-- D rises by one, held at 65535 (R10). -/
def Context.countCycle (c : Context) : Context := { c with d := min (c.d + 1) 65535 }

/-- An on-phase ends and counts: its summary is formed, D rises, and the off-phase follows (R10 to R12, R72). -/
def State.countOnPhase (s : State) (i : Fin 8) (verdict : Verdict) : State :=
  let last := completesRun (s.activeRecord i) (s.slot i).active
  (s.modSlot i fun sl =>
    let sl := sl.formSummary (s.env i) verdict last
    { sl with active := sl.active.countCycle }).enterOffPhase i

/-- An on-phase ends without counting: its summary is formed and D stays (R11, R13, R19, R122). -/
def State.abandonOnPhase (s : State) (i : Fin 8) (verdict : Verdict) : State :=
  s.modSlot i fun sl => sl.formSummary (s.env i) verdict false

/-- A drain begins, for the bound profile's bleed time and at least 0.1 s (R14). -/
def State.enterDrain (s : State) (i : Fin 8) (next : DrainNext) : State :=
  let t := Timer.start (s.activeRecord i).drainTime
  s.modSlot i fun sl => sl.enter .drain (some t) (some next)

/-- A drain continues the bleed or drain already running: the timer carries on (R13, R14). -/
def State.continueDrain (s : State) (i : Fin 8) (next : DrainNext) : State :=
  s.modSlot i fun sl => sl.enter .drain sl.active.timer (some next)

/-! ## Shelf holds at a slot -/

/-- A shelf hold comes into force at a slot (R19, R129). -/
def State.pauseSlot (s : State) (i : Fin 8) : State :=
  match (s.slot i).active.state with
  | .runOn => (s.abandonOnPhase i .abort).modSlot i fun sl => sl.enter .paused none
  | .runBleed | .runRest => s.modSlot i fun sl => sl.enter .paused none
  | .manual => (s.modSlot i fun sl => sl.enter .idle none).clearRails i
  | .drain | .idle | .paused | .faulted => s

/-- A shelf hold ends at a slot: a PAUSED slot resumes its run (R20, R131). -/
def State.resumeSlot (s : State) (i : Fin 8) : State :=
  match (s.slot i).active.state with
  | .paused =>
    if runComplete (s.activeRecord i) (s.slot i).active then s.modSlot i fun sl => sl.enter .idle none
    else s.enterRest i
  | _ => s

/-- Act at every slot in turn. The slots are separate (R129), so the order shows nowhere (log entry 18). -/
def State.atEverySlot (s : State) (f : State → Fin 8 → State) : State := (List.finRange 8).foldl f s

/-! ## Restoring a parked context -/

/-- Where a restored context goes, by the state it was parked in (R156). A run with a rest of 0 begins its on-phase at once,
which clears the slot's OPEN flag (R7, R168), though R162 and R169 say that a restore changes no flag. DESIGN CHOICE, log entry
24. A complete run restored while a shelf hold is in force meets two rows of R156's table and goes to IDLE, though R19, R129,
R130 and R159 name PAUSED for a restore under a hold. DESIGN CHOICE, log entry 26. -/
def State.settleRestored (s : State) (i : Fin 8) : State :=
  match (s.slot i).active.state with
  | .faulted => s.modSlot i fun sl => sl.enter .faulted none
  | .runOn | .runBleed | .runRest | .paused =>
    if runComplete (s.activeRecord i) (s.slot i).active then s.modSlot i fun sl => sl.enter .idle none
    else if s.shelfHold then s.modSlot i fun sl => sl.enter .paused none
    else s.enterRest i
  | .idle | .manual | .drain => s.modSlot i fun sl => sl.enter .idle none

/-- The parked context becomes the active one, with its binding (R156). The context it replaces gives its own up. A slot
with no parked context, which R148 rules out, is left with a context in its reset condition (log entry 15). -/
def State.restore (s : State) (i : Fin 8) : State :=
  let s := s.releaseBinding i
  match (s.slot i).parked with
  | none => s.modSlot i fun sl => { sl with active := Context.reset }
  | some c => (s.modSlot i fun sl => { sl with active := c, parked := none }).settleRestored i

/-! ## The slot engine's own events -/

/-- The on-time of RUN-ON expires (R10): the checker closes its walk, the summary is formed, D rises, and the off-phase
follows. An expiry that finds the slot in another state is not taken (R25; log entry 1). -/
def State.onTimeExpiry (s : State) (i : Fin 8) : State :=
  if (s.slot i).active.state = .runOn then
    let s := s.modSlot i fun sl => sl.closeWalk (s.env i)
    s.countOnPhase i (s.slot i).active.expiryVerdict
  else s

/-- The bleed of RUN-BLEED expires (R12). -/
def State.bleedExpiry (s : State) (i : Fin 8) : State :=
  if (s.slot i).active.state = .runBleed then
    if runComplete (s.activeRecord i) (s.slot i).active then s.modSlot i fun sl => sl.enter .idle none
    else s.enterRest i
  else s

/-- The rest of RUN-REST expires: the next on-phase begins (R12). -/
def State.restExpiry (s : State) (i : Fin 8) : State :=
  if (s.slot i).active.state = .runRest then s.beginOnPhase i else s

/-- LEAD ends: the main rail comes on (R141). The elapsed time of the on-phase is then at least the standby lead (log entry
19). -/
def State.endOfLead (s : State) (i : Fin 8) : State :=
  if (s.slot i).active.state = .runOn ∧ (s.slot i).active.subPhase = some .lead then
    let r := s.activeRecord i
    s.modSlot i fun sl =>
      { sl with
        active := { sl.active with
          subPhase := some r.firstSubPhase
          timer := sl.active.timer.map fun t =>
            { t with elapsed := max t.elapsed (r.standbyLead * Config.tenthUs) } } }
  else s

/-- A drain completes: its drain-next is applied (R14). -/
def State.drainCompletion (s : State) (i : Fin 8) : State :=
  if (s.slot i).active.state = .drain then
    match (s.slot i).active.drainNext with
    | some .faulted => s.modSlot i fun sl => sl.enter .faulted none
    | some .restore => s.restore i
    | some .idle | none => s.modSlot i fun sl => sl.enter .idle none
  else s

/-! ## Meanings -/

/-- An event or command acts on a part that is not held; a held part takes none (R183). -/
def State.live (s : State) (f : State → State) : Host.Outcome State Fault Refusal := .next (if s.held then s else f s)

/-- ON_TIME_EXPIRY (R10). -/
def execOnTimeExpiry (i : Fin 8) (s : State) : Host.Outcome State Fault Refusal := s.live fun s => s.onTimeExpiry i

/-- BLEED_EXPIRY (R12). -/
def execBleedExpiry (i : Fin 8) (s : State) : Host.Outcome State Fault Refusal := s.live fun s => s.bleedExpiry i

/-- REST_EXPIRY (R12). -/
def execRestExpiry (i : Fin 8) (s : State) : Host.Outcome State Fault Refusal := s.live fun s => s.restExpiry i

/-- END_OF_LEAD (R141). -/
def execEndOfLead (i : Fin 8) (s : State) : Host.Outcome State Fault Refusal := s.live fun s => s.endOfLead i

/-- DRAIN_COMPLETION (R14). -/
def execDrainCompletion (i : Fin 8) (s : State) : Host.Outcome State Fault Refusal :=
  s.live fun s => s.drainCompletion i

end Sys2Proof.Machine
end

