-- ==== Sys2Proof/Machine/Protection.lean ====
section
/-!
DEFINITION. The protection unit (07_protection_and_shelf_holds.md): trips, open boards, the shelf hold inputs.
-/

namespace Sys2Proof.Machine

/-! ## Trips -/

/-- A channel under a trip check: its number, the name a TRIP record gives it, and its applied trip level. -/
structure TripCheck where
  channel : Fin 8
  name : ChannelName
  level : Nat
deriving DecidableEq, Repr

/-- The channels a sample checks, the lower first, with their applied levels (R120): those whose feed is on. -/
def State.tripChecks (s : State) (i : Fin 8) : List TripCheck :=
  let r := s.activeRecord i
  let c := (s.slot i).active
  let x := lowerOf (pairOf i)
  let y := upperOf (pairOf i)
  match s.mode i with
  | .separate => [{ channel := i, name := .self, level := r.tripLevel }]
  | .gang =>
    [ { channel := x, name := .lower, level := r.tripLevel / 2 },
      { channel := y, name := .upper, level := r.tripLevel / 2 } ]
  | .dual =>
    let standby : TripCheck := { channel := x, name := .lower, level := r.standbyTrip }
    let main : TripCheck := { channel := y, name := .upper, level := r.tripLevel }
    match c.state, c.subPhase, (s.pair (pairOf i)).rails with
    | .manual, _, some .both => [standby, main]
    | .manual, _, some .standbyOnly => [standby]
    | .manual, _, none => []
    | _, some .lead, _ => [standby]
    | _, _, _ => [standby, main]

/-- A checked channel's trip count after its sample (R121). -/
def Channel.countTrip (c : Channel) (level : Nat) : Channel :=
  { c with tripCount := if level ≤ c.present then c.tripCount + 1 else 0 }

/-- The trip counts after a sample's checks. -/
def State.countTrips (s : State) (checks : List TripCheck) : State :=
  checks.foldl (fun s t => s.modChannel t.channel fun c => c.countTrip t.level) s

/-- The check that trips: the first whose channel's count equals the debounce, the lower channel standing for both
(R111, R121). -/
def State.tripped (s : State) (checks : List TripCheck) (debounce : Nat) : Option TripCheck :=
  checks.find? fun t => decide ((s.channel t.channel).tripCount = debounce)

/-- What a trip does at the slot up to its drain: the TRIP fault and the TRIP record (R122, R123). -/
def State.recordTrip (s : State) (i : Fin 8) (t : TripCheck) : State :=
  s.modSlot i fun sl =>
    let sl := sl.raise .trip
    sl.push (sl.makeRecord (s.inputCurrent i) (.trip t.name (s.channel t.channel).present t.level))

/-- A trip, in the order of R122; in MANUAL there is no on-phase and so no summary (R123). -/
def State.trip (s : State) (i : Fin 8) (t : TripCheck) : State :=
  let s := (s.recordTrip i t).clearTrips i
  let s := if (s.slot i).active.state = .runOn then s.abandonOnPhase i .trip else s
  (s.enterDrain i .faulted).clearRails i

/-! ## Open boards -/

/-- The open check of a SOAK sample (R126); at 64 the board is reported open, once in the on-phase (R127). -/
def Slot.openCheck (sl : Slot) (env : Env) : Slot :=
  let threshold := env.record.openThreshold
  if threshold = 0 ∨ sl.active.openReported then sl
  else
    let count := if env.current < threshold then sl.openCount + 1 else 0
    let sl := { sl with openCount := count }
    if 64 ≤ count then
      let sl := sl.raise .opened
      let sl := sl.push (sl.makeRecord env.current (.opened threshold))
      { sl with active := { sl.active with openReported := true } }
    else sl

/-! ## Samples at a slot -/

/-- A sample counts: k rises, held at 4,294,967,295 (R8, R18). -/
def Context.countSample (c : Context) : Context := { c with k := min (c.k + 1) 4294967295 }

/-- The accumulators take a counted sample (R81). -/
def Context.accumulate (c : Context) (current : Nat) : Context :=
  { c with n := c.n + 1, sum := c.sum + current, peak := max c.peak current }

/-- The phase limit of counted sample k (R60). -/
def ProfileRecord.phaseLimit (r : ProfileRecord) (k : Nat) : Nat := if r.isSurge k then r.surgeLimit else r.soakLimit

/-- A counted sample of RUN-ON, in the order of R23 from its third step to the accumulators: k and the sub-phase, the open
check of a SOAK sample, the accumulators. -/
def Slot.takeCounted (sl : Slot) (env : Env) : Slot :=
  let c := sl.active.countSample
  let sl := { sl with active := { c with subPhase := some (env.record.subPhaseAfter c.k) } }
  let sl := if env.record.isSurge c.k then sl else sl.openCheck env
  { sl with active := sl.active.accumulate env.current }

/-- The checker's work on the counted sample (R23, sixth step); the flag says whether the stage failed (R68). -/
def Slot.checkSample (sl : Slot) (env : Env) : Slot × Bool :=
  let r := sl.active.checker.step env.record.stages (env.record.phaseLimit sl.active.k) env.current
  let sl := { sl with active := { sl.active with checker := r.1 } }
  match r.2 with
  | none => (sl, false)
  | some cause => (sl.failStage env cause, true)

/-- The on-fail action of the bound profile (R11, R71 to R73). -/
def State.applyOnFail (s : State) (i : Fin 8) : State :=
  match (s.activeRecord i).action with
  | .carryOn => s
  | .cut => s.countOnPhase i .sigfail
  | .halt => (s.abandonOnPhase i .sigfail).enterDrain i .faulted

/-- A counted sample of RUN-ON that did not trip (R23). -/
def State.countedSample (s : State) (i : Fin 8) : State :=
  let env := s.env i
  let r := ((s.slot i).takeCounted env).checkSample env
  let s := s.modSlot i fun _ => r.1
  if r.2 then s.applyOnFail i else s

/-- What a slot does with a sample once its channels are calibrated (R23): the trip check in RUN-ON and MANUAL, then the
count. In the other states, and in LEAD past the trip check, the sample goes no further. A sample taken after an on-time expiry
whose off-time is 0 finds RUN-ON and is checked and counted in the new on-phase (R8, R12, R120), though R24 and R125 say that
a sample after the expiry goes no further. DESIGN CHOICE, log entry 25. -/
def State.sampleAtSlot (s : State) (i : Fin 8) : State :=
  match (s.slot i).active.state with
  | .runOn | .manual =>
    let checks := s.tripChecks i
    let s := s.countTrips checks
    match s.tripped checks (s.activeRecord i).tripDebounce with
    | some t => s.trip i t
    | none =>
      if (s.slot i).active.state = .manual then
        s.modSlot i fun sl => { sl with active := sl.active.countSample }
      else if (s.slot i).active.subPhase = some .lead then s
      else s.countedSample i
  | .idle | .runBleed | .runRest | .paused | .drain | .faulted => s

/-! ## The shelf inputs -/

/-- A shelf input's level changes to asserted: its fault is raised, and where no hold stood a hold comes into force at
every slot (R128, R129). An input already asserted does not change. -/
def State.assertInput (s : State) (k : PartFault) (already : Bool) (set : State → State) : State :=
  if already then s
  else
    let s' := set (s.raisePart k)
    if s.shelfHold then s' else s'.atEverySlot State.pauseSlot

/-- A shelf input's level changes to released: where it was the last asserted, the hold ends (R131). -/
def State.releaseInput (s : State) (set : State → State) : State :=
  let s' := set s
  if s.shelfHold && !s'.shelfHold then s'.atEverySlot State.resumeSlot else s'

/-- HEAT_ASSERTED (R128). A held part takes no event; the level at the pin changes all the same (R183; log entry
14). -/
def execHeatAsserted (s : State) : Host.Outcome State Fault Refusal :=
  { s with pins := { s.pins with heat := true } }.live fun s =>
    s.assertInput .heat s.heat fun s => { s with heat := true }

/-- HEAT_RELEASED (R131). -/
def execHeatReleased (s : State) : Host.Outcome State Fault Refusal :=
  { s with pins := { s.pins with heat := false } }.live fun s => s.releaseInput fun s => { s with heat := false }

/-- SUPPLY_LOW_ASSERTED (R128). -/
def execSupplyLowAsserted (s : State) : Host.Outcome State Fault Refusal :=
  { s with pins := { s.pins with supplyLow := true } }.live fun s =>
    s.assertInput .supply s.supplyLow fun s => { s with supplyLow := true }

/-- SUPPLY_LOW_RELEASED (R131). -/
def execSupplyLowReleased (s : State) : Host.Outcome State Fault Refusal :=
  { s with pins := { s.pins with supplyLow := false } }.live fun s =>
    s.releaseInput fun s => { s with supplyLow := false }

end Sys2Proof.Machine
end

