-- ==== Sys2Proof/Machine/Acceptance.lean ====
section
/-!
DEFINITION. The acceptance checks that commands share, in the order of R181: the target, NOT-PERMITTED, PAIRED, NOT-HOLDER,
BUSY for the part-wide commands, and the hold-timer restart of R150.
-/

namespace Sys2Proof.Machine

/-- A refusal leaves the part as it was (R181). -/
def State.refuse (s : State) (st : Status) : State × Reply := (s, Reply.bare st)

/-- A refusal after the hold-timer restart, or a taken command with nothing to report. -/
def State.reply (s : State) (st : Status) : State × Reply := (s, Reply.bare st)

/-- A command that changes a slot: BAD-ARG for a target of 8..15 (R3), PAIRED for the upper slot of a paired pair (R137),
NOT-HOLDER from the party that does not hold it (R145). Past these it restarts the hold timer (R150) and acts. -/
def State.onHeldSlot (s : State) (p : Party) (target : Nibble) (act : Fin 8 → State → State × Reply) : State × Reply :=
  match slotOf target with
  | none => s.refuse .badArg
  | some i =>
    if s.upperPaired i then s.refuse .paired
    else if (s.slot i).holder ≠ p then s.refuse .notHolder
    else act i (s.restartHold p i)

/-- A command that reads a slot, taken from either party: a bench command restarts the hold timer of a slot the bench
holds, and is then carried out (R150), so that it reports the timer as restarted (DEDUCED, log entry 11). -/
def State.onAnySlot (s : State) (p : Party) (target : Nibble) (report : Fin 8 → State → Reply) :
    State × Reply :=
  match slotOf target with
  | none => s.refuse .badArg
  | some i => (s.restartHold p i, report i (s.restartHold p i))

/-- Every slot's active context is IDLE or FAULTED (R38). -/
def State.atRest (s : State) : Bool :=
  s.slots.toList.all fun sl => decide (sl.active.state = .idle) || decide (sl.active.state = .faulted)

/-- The conditions of the part-wide commands but DEVICE-RESET (R38): the whole part held, the trim store not being
programmed, every slot at rest. -/
def State.partWide (s : State) (p : Party) (act : State → State × Reply) : State × Reply :=
  if !s.holdsAll p then s.refuse .notPermitted
  else if s.trimBusy then s.refuse .busy
  else if !s.atRest then s.refuse .busy
  else act s

/-- The part as a target: 15. -/
def isPart (target : Nibble) : Bool := target == 15

/-- A named command's meaning: on a part that is not held it is taken at the party's port (R181, R183), which may be
assembling another (log entry 5). -/
def State.command (s : State) (p : Party) (c : Cmd) (target : Nibble) (act : State → State × Reply) :
    Host.Outcome State Fault Refusal :=
  s.live fun s => s.taken p c target act

end Sys2Proof.Machine
end

