-- ==== Sys2Proof/Machine/Slots.lean ====
section
/-!
DEFINITION. The slot commands: BIND, UNBIND, START, STOP, ACK, DRIVE, SET-CONV, SLOT-INIT, STATUS and SUMMARY-READ
(chapters 1 and 5).
-/

namespace Sys2Proof.Machine

/-! ## Binding -/

/-- BIND (R4). -/
def cmdBind (p : Party) (target arg : Nibble) (s : State) : State × Reply :=
  s.onHeldSlot p target fun i s =>
    if (s.slot i).active.state ≠ .idle then s.reply .busy
    else if (s.profile (profileOf arg)).record.isEmpty then s.reply .unbound
    else (s.bindTo i (profileOf arg)).reply .ok

/-- UNBIND (R5). -/
def cmdUnbind (p : Party) (target _arg : Nibble) (s : State) : State × Reply :=
  s.onHeldSlot p target fun i s =>
    match (s.slot i).active.state with
    | .idle | .faulted => (s.releaseBinding i).reply .ok
    | _ => s.reply .busy

/-! ## Running -/

/-- D becomes 0 and the baseline absent: a run begins (R6). -/
def Context.beginRun (c : Context) : Context := { c with d := 0, baseline := none }

/-- START (R6); PENDING stands before the state conditions (R96). -/
def cmdStart (p : Party) (target _arg : Nibble) (s : State) : State × Reply :=
  s.onHeldSlot p target fun i s =>
    if (s.slot i).withheld.isSome then s.reply .pending
    else if (s.slot i).active.state ≠ .idle then s.reply .busy
    else if (s.slot i).active.bound = none then s.reply .unbound
    else if s.shelfHold then s.reply .shelfHold
    else
      let s := s.modSlot i fun sl => { sl with active := sl.active.beginRun }
      (s.beginOnPhase i).reply .ok

/-- STOP (R13). -/
def cmdStop (p : Party) (target _arg : Nibble) (s : State) : State × Reply :=
  s.onHeldSlot p target fun i s =>
    match (s.slot i).active.state with
    | .runOn => ((s.abandonOnPhase i .abort).enterDrain i .idle).reply .ok
    | .runBleed => (s.continueDrain i .idle).reply .ok
    | .runRest | .paused => (s.modSlot i fun sl => sl.enter .idle none).reply .ok
    | .manual => ((s.enterDrain i .idle).clearRails i).reply .ok
    | .idle | .faulted => s.reply .noRun
    | .drain => s.reply .busy

/-- ACK (R16). -/
def cmdAck (p : Party) (target _arg : Nibble) (s : State) : State × Reply :=
  s.onHeldSlot p target fun i s =>
    match (s.slot i).active.state with
    | .faulted =>
      if (s.slot i).flag .trip || (s.slot i).flag .signature then s.reply .flagSet
      else (s.modSlot i fun sl => sl.enter .idle none).reply .ok
    | .idle => s.reply .noRun
    | _ => s.reply .busy

/-! ## Manual drive -/

/-- A slot enters MANUAL: k becomes 0 and the OPEN flag F is cleared (R18). -/
def Slot.enterManual (sl : Slot) : Slot :=
  { sl with active := { (sl.active.enter .manual none) with k := 0 } }.clearOpenFlag

/-- MANUAL is entered with the rail requests given; the trip counts become 0 (R18, R121, R143). -/
def State.enterManual (s : State) (i : Fin 8) (rails : Option Rails) : State :=
  ((s.modSlot i Slot.enterManual).clearTrips i).modPair (pairOf i) fun p => { p with rails := rails }

/-- What a DRIVE does by state (R17, R143). -/
def driveSlot (form : DriveForm) (i : Fin 8) (s : State) : State × Reply :=
  match (s.slot i).active.state, form with
  | .idle, .feed rails =>
    if (s.slot i).active.bound = none then s.reply .unbound
    else if s.shelfHold then s.reply .shelfHold
    else (s.enterManual i rails).reply .ok
  | .idle, .bleed => (s.enterDrain i .idle).reply .ok
  | .idle, .float => s.reply .ok
  | .manual, .feed rails => (s.modPair (pairOf i) fun p => { p with rails := rails }).reply .ok
  | .manual, .bleed => ((s.enterDrain i .idle).clearRails i).reply .ok
  | .manual, .float => ((s.modSlot i fun sl => sl.enter .idle none).clearRails i).reply .ok
  | _, _ => s.reply .busy

/-- DRIVE (R17, R143). PAIRED stands before the operand's BAD-ARG at an upper slot, since no operand coding is checked
for it; elsewhere BAD-ARG stands before NOT-HOLDER. -/
def cmdDrive (p : Party) (target _arg : Nibble) (op : Word) (s : State) : State × Reply :=
  match slotOf target with
  | none => s.refuse .badArg
  | some i =>
    if s.upperPaired i then s.refuse .paired
    else
      match driveForm (s.mode i) op with
      | none => s.refuse .badArg
      | some form => s.onHeldSlot p target (driveSlot form)

/-! ## Report settings and initialising -/

/-- SET-CONV (R100). -/
def cmdSetConv (p : Party) (target _arg : Nibble) (op : Word) (s : State) : State × Reply :=
  s.onHeldSlot p target fun i s =>
    (s.modSlot i fun sl => { sl with active := { sl.active with conv := convOf op } }).reply .ok

/-- A slot returned to its starting condition; its holder, hold timer and parked context are kept (R21), and so
is the open count, which the next on-phase clears (log entry 20). -/
def Slot.initialise (sl : Slot) : Slot :=
  { sl with active := Context.reset, withheld := none, faults := Marks.clear 7 }.clearStack

/-- SLOT-INIT (R21). -/
def cmdSlotInit (p : Party) (target _arg : Nibble) (s : State) : State × Reply :=
  s.onHeldSlot p target fun i s =>
    match (s.slot i).active.state with
    | .idle | .faulted => ((s.releaseBinding i).modSlot i Slot.initialise).reply .ok
    | _ => s.reply .busy

/-! ## Reading -/

/-- The state codes of 12.6. -/
def SlotState.code : SlotState → Nat
  | .idle => 0
  | .manual => 1
  | .runOn => 2
  | .runBleed => 3
  | .runRest => 4
  | .paused => 5
  | .drain => 6
  | .faulted => 7

def drainNextCode : Option DrainNext → Nat
  | none => 0
  | some .idle => 1
  | some .faulted => 2
  | some .restore => 3

def subPhaseCode : Option SubPhase → Nat
  | none => 0
  | some .lead => 1
  | some .surge => 2
  | some .soak => 3

def Condition.code : Condition → Nat
  | .idle => 0
  | .walking => 1
  | .done => 2
  | .failed => 3

/-- The profile id of a STATUS reply, FFh when unbound (12.6). -/
def boundCode : Option (Fin 16) → Nat
  | none => 0xFF
  | some p => p.val

/-- The five words of a STATUS reply (R22, 12.6). -/
def State.statusWords (s : State) (i : Fin 8) : List Word :=
  let sl := s.slot i
  let c := sl.active
  [ field 1 0 (partyCode sl.holder) ||| field 4 4 c.state.code ||| field 2 8 (drainNextCode c.drainNext)
      ||| field 2 10 (subPhaseCode c.subPhase) ||| field 8 16 (boundCode c.bound) ||| field 4 24 c.checker.stage
      ||| field 2 28 c.checker.condition.code ||| flagAt 30 sl.withheld.isSome ||| flagAt 31 sl.parked.isSome,
    halves c.d (remainingTenths c.timer),
    field 32 0 c.k,
    halves (s.channel i).present (if s.lowerPaired i then (s.channel (upperOf (pairOf i))).present else 0),
    field 4 0 sl.validCount ||| field 3 4 sl.top.val
      ||| field 4 8 (match sl.parked with | none => 0 | some pc => pc.state.code)
      ||| field 8 16 (holdMinutes (s.slot (s.governor i)).holdTimer) ]

/-- STATUS (R22). -/
def cmdStatus (p : Party) (target _arg : Nibble) (s : State) : State × Reply :=
  s.onAnySlot p target fun i s => Reply.report (s.statusWords i)

/-- A summary in the words of a SUMMARY record, with the after-loss mark clear (R101). -/
def summaryReply : Option Summary → Reply
  | none => Reply.bare .empty
  | some m => Reply.report m.toRecord.words

/-- SUMMARY-READ (R101). -/
def cmdSummaryRead (p : Party) (target arg : Nibble) (s : State) : State × Reply :=
  if 3 ≤ arg.toNat then s.refuse .badArg
  else
    s.onAnySlot p target fun i s =>
      let c := (s.slot i).active
      match arg.toNat with
      | 0 => summaryReply c.latest
      | 1 => summaryReply c.previous
      | _ =>
        match c.baseline with
        | none => Reply.bare .empty
        | some b => Reply.report [field 20 0 b]

/-! ## Meanings -/

/-- BIND (R4). -/
def execBind (p : Party) (target arg : Nibble) (s : State) : Host.Outcome State Fault Refusal :=
  s.command p .bind target (cmdBind p target arg)

/-- UNBIND (R5). -/
def execUnbind (p : Party) (target arg : Nibble) (s : State) : Host.Outcome State Fault Refusal :=
  s.command p .unbind target (cmdUnbind p target arg)

/-- START (R6). -/
def execStart (p : Party) (target arg : Nibble) (s : State) : Host.Outcome State Fault Refusal :=
  s.command p .start target (cmdStart p target arg)

/-- STOP (R13). -/
def execStop (p : Party) (target arg : Nibble) (s : State) : Host.Outcome State Fault Refusal :=
  s.command p .stop target (cmdStop p target arg)

/-- ACK (R16). -/
def execAck (p : Party) (target arg : Nibble) (s : State) : Host.Outcome State Fault Refusal :=
  s.command p .ack target (cmdAck p target arg)

/-- DRIVE (R17, R143). -/
def execDrive (p : Party) (target arg : Nibble) (op : Word) (s : State) : Host.Outcome State Fault Refusal :=
  s.command p .drive target (cmdDrive p target arg op)

/-- SET-CONV (R100). -/
def execSetConv (p : Party) (target arg : Nibble) (op : Word) (s : State) : Host.Outcome State Fault Refusal :=
  s.command p .setConv target (cmdSetConv p target arg op)

/-- SLOT-INIT (R21). -/
def execSlotInit (p : Party) (target arg : Nibble) (s : State) : Host.Outcome State Fault Refusal :=
  s.command p .slotInit target (cmdSlotInit p target arg)

/-- STATUS (R22). -/
def execStatus (p : Party) (target arg : Nibble) (s : State) : Host.Outcome State Fault Refusal :=
  s.command p .status target (cmdStatus p target arg)

/-- SUMMARY-READ (R101). -/
def execSummaryRead (p : Party) (target arg : Nibble) (s : State) : Host.Outcome State Fault Refusal :=
  s.command p .summaryRead target (cmdSummaryRead p target arg)

end Sys2Proof.Machine
end

