-- ==== Sys2Proof/Machine/Sense.lean ====
section
/-!
DEFINITION. The sense chain (02_sense_chain_and_calibration.md): calibration, sample arrivals and pair-sample events, the
trim store, and SET-SAMPLING, TRIM-SET, TRIM-READ and TRIM-PROGRAM.
-/

namespace Sys2Proof.Machine

/-! ## Samples -/

/-- The calibrated current of a code, in mA (R29). -/
def calibrate (trim : Int) (gain r : Nat) : Nat :=
  ((clampInt 0 4095 ((r : Int) + trim)).toNat * gain + 128) / 256

/-- A channel takes a code: its present current becomes the calibrated value, and its next conversion begins (R26, R30). -/
def Channel.arrive (c : Channel) (code : SenseCode) : Channel :=
  { c with present := calibrate c.trim c.gain code.toNat, conversion := 0 }

/-- A sample arrives at a channel of a SEPARATE pair (R23, R26). In GANG and DUAL a channel's code arrives in a pair-sample
event alone, and no such arrival is taken (R27, R144; log entry 1). -/
def State.sampleArrival (s : State) (ch : Fin 8) (code : SenseCode) : State :=
  if s.isPaired ch then s else (s.modChannel ch fun c => c.arrive code).sampleAtSlot ch

/-- Both codes of a GANG or DUAL pair arrive as one event at the lower slot (R27). A SEPARATE pair has none. -/
def State.pairSample (s : State) (pr : Fin 4) (codeX codeY : SenseCode) : State :=
  if s.isPaired (lowerOf pr) then
    ((s.modChannel (lowerOf pr) fun c => c.arrive codeX).modChannel (upperOf pr) fun c => c.arrive codeY).sampleAtSlot
      (lowerOf pr)
  else s

/-- The sample period in µs: 4 × (SDIV + 1) (R28). -/
def State.samplePeriod (s : State) : Nat := 4 * (s.sdiv + 1)

/-- A converter is restarted: the conversion in progress is abandoned (R27, R28). -/
def Channel.restart (c : Channel) : Channel := { c with conversion := 0 }

/-- All eight converters restart together (R28, R39). -/
def State.restartConverters (s : State) : State :=
  { s with channels := Vector.ofFn fun i => (s.channel i).restart }

/-! ## Calibration commands -/

/-- SET-SAMPLING (R39). -/
def cmdSetSampling (p : Party) (target _arg : Nibble) (op : Word) (s : State) : State × Reply :=
  if !isPart target then s.refuse .badArg
  else
    s.partWide p fun s =>
      let s := { s with sdiv := sdivStored op }
      s.restartConverters.reply (if sdivStored op = op.toNat then .ok else .clamped)

/-- TRIM-SET (R32): its target names a channel. -/
def cmdTrimSet (p : Party) (target _arg : Nibble) (op : Word) (s : State) : State × Reply :=
  match slotOf target with
  | none => s.refuse .badArg
  | some ch =>
    s.partWide p fun s =>
      (s.modChannel ch fun c => { c with trim := trimStored op, gain := gainStored op }).reply
        (if trimStored op = trimCarried op ∧ gainStored op = gainCarried op then .ok else .clamped)

/-- The three words of a TRIM-READ reply (R33, 12.6). -/
def State.trimWords (s : State) (ch : Fin 8) : List Word :=
  let c := s.channel ch
  [ field 16 0 c.gain ||| signedAt 16 c.trim, field 16 0 c.storedGain ||| signedAt 16 c.storedTrim,
    field 4 0 s.programCount ||| flagAt 4 s.trimBusy ]

/-- TRIM-READ (R33): it names a channel, so it restarts no hold timer. -/
def cmdTrimRead (_p : Party) (target _arg : Nibble) (s : State) : State × Reply :=
  match slotOf target with
  | none => s.refuse .badArg
  | some ch => (s, Reply.report (s.trimWords ch))

/-- A programming begins: the count rises at once and the working values are captured (R35). -/
def State.beginProgramming (s : State) : State :=
  { s with
    programCount := s.programCount + 1
    programming := some
      { elapsed := 0, captured := Vector.ofFn fun i => ((s.channel i).trim, (s.channel i).gain) } }

/-- TRIM-PROGRAM (R35); EXHAUSTED comes after the conditions of R38. -/
def cmdTrimProgram (p : Party) (target _arg : Nibble) (s : State) : State × Reply :=
  if !isPart target then s.refuse .badArg
  else s.partWide p fun s => if 15 ≤ s.programCount then s.refuse .exhausted else s.beginProgramming.reply .ok

/-- The programming completes: the store takes the captured values, all channels together, and trim busy clears (R35). A
completion that finds no programming is not taken (R37). -/
def State.completeProgramming (s : State) : State :=
  match s.programming with
  | none => s
  | some pg =>
    { s with
      programming := none
      channels := Vector.ofFn fun i =>
        { (s.channel i) with storedTrim := (pg.captured[i]).1, storedGain := (pg.captured[i]).2 } }

/-! ## Meanings -/

/-- SAMPLE_ARRIVAL (R23, R26). -/
def execSampleArrival (ch : Fin 8) (code : SenseCode) (s : State) : Host.Outcome State Fault Refusal :=
  s.live fun s => s.sampleArrival ch code

/-- PAIR_SAMPLE_EVENT (R27). -/
def execPairSampleEvent (pr : Fin 4) (codeX codeY : SenseCode) (s : State) : Host.Outcome State Fault Refusal :=
  s.live fun s => s.pairSample pr codeX codeY

/-- TRIM_PROGRAMMING_COMPLETION (R35). -/
def execTrimProgrammingCompletion (s : State) : Host.Outcome State Fault Refusal :=
  s.live fun s => s.completeProgramming

/-- SET-SAMPLING (R39). -/
def execSetSampling (p : Party) (target arg : Nibble) (op : Word) (s : State) : Host.Outcome State Fault Refusal :=
  s.command p .setSampling target (cmdSetSampling p target arg op)

/-- TRIM-SET (R32). -/
def execTrimSet (p : Party) (target arg : Nibble) (op : Word) (s : State) : Host.Outcome State Fault Refusal :=
  s.command p .trimSet target (cmdTrimSet p target arg op)

/-- TRIM-READ (R33). -/
def execTrimRead (p : Party) (target arg : Nibble) (s : State) : Host.Outcome State Fault Refusal :=
  s.command p .trimRead target (cmdTrimRead p target arg)

/-- TRIM-PROGRAM (R35). -/
def execTrimProgram (p : Party) (target arg : Nibble) (s : State) : Host.Outcome State Fault Refusal :=
  s.command p .trimProgram target (cmdTrimProgram p target arg)

end Sys2Proof.Machine
end

