-- ==== Sys2Proof/Machine/Holds.lean ====
section
/-!
DEFINITION. The hold arbiter (09_holding_slots_rack_and_bench.md): TAKE, RELEASE, HOLD-TIME and the expiry of a hold timer.
-/

namespace Sys2Proof.Machine

/-! ## Taking -/

/-- TAKE by the state of a rack-held slot, without and with preempt (R147). -/
def takeAllowed (st : SlotState) (preempt : Bool) : Bool :=
  match st with
  | .idle | .faulted | .runRest | .paused => true
  | .runOn | .runBleed | .manual => preempt
  | .drain => false

/-- The state a context is parked in (R148). -/
def parkedState : SlotState → SlotState
  | .manual => .idle
  | st => st

/-- The parked context: whole, its phase timer stopped (R148). A context parked as RUN-ON has no sub-phase: R148 lists what is
kept without naming it. DESIGN CHOICE, log entry 23. -/
def Context.park (c : Context) : Context := c.enter (parkedState c.state) none

/-- The bench's fresh context: in the reset condition, draining to IDLE where the rack's feeds or bleed were on (R149). -/
def freshContext (r : ProfileRecord) (c : Context) : Context :=
  match c.state with
  | .runOn | .manual => Context.reset.enter .drain (some (Timer.start r.drainTime)) (some .idle)
  | .runBleed => Context.reset.enter .drain c.timer (some .idle)
  | .idle | .runRest | .paused | .drain | .faulted => Context.reset

/-- The rack's context is parked and the bench gets its own (R148, R149). -/
def Slot.handOver (sl : Slot) (r : ProfileRecord) : Slot :=
  { sl with parked := some sl.active.park, active := freshContext r sl.active }

/-- A taken TAKE of a rack-held slot (R147): a preempted on-phase ends with its ABORT summary, the contexts change, the
holder becomes BENCH and the hold timer starts. -/
def State.takeSlot (s : State) (i : Fin 8) : State :=
  let s := if (s.slot i).active.state = .runOn then s.abandonOnPhase i .abort else s
  let s := (s.modSlot i fun sl => sl.handOver (s.activeRecord i)).clearRails i
  (s.setHolder i .bench).modSlot i fun sl => { sl with holdTimer := some s.holdFull }

/-- TAKE (R147). -/
def cmdTake (p : Party) (target arg : Nibble) (s : State) : State × Reply :=
  match slotOf target with
  | none => s.refuse .badArg
  | some i =>
    if 2 ≤ arg.toNat then s.refuse .badArg
    else if p = .rack then s.refuse .notPermitted
    else if s.upperPaired i then s.refuse .paired
    else if (s.slot i).holder = .bench then (s.restartHold p i).reply .ok
    else if takeAllowed (s.slot i).active.state (arg == 1) then (s.takeSlot i).reply .ok
    else s.refuse .busy

/-! ## Giving back -/

/-- The bench's context is discarded with its binding, and a drain context takes its place (R154, R155). -/
def State.drainToRestore (s : State) (i : Fin 8) (timer : Option Timer) : State :=
  (s.releaseBinding i).modSlot i fun sl =>
    { sl with active := Context.reset.enter .drain timer (some .restore) }

/-- The bench's context ends by its state (R154). Its ABORT summary is formed under the bench, before the holder changes
hands (R154). -/
def State.endBenchContext (s : State) (i : Fin 8) : State :=
  let fresh := some (Timer.start (s.activeRecord i).drainTime)
  match (s.slot i).active.state with
  | .runOn => (s.abandonOnPhase i .abort).drainToRestore i fresh
  | .manual => (s.drainToRestore i fresh).clearRails i
  | .runBleed | .drain => s.drainToRestore i (s.slot i).active.timer
  | .idle | .runRest | .paused | .faulted => s.restore i

/-- The bench's hold on a slot ends: the holder becomes RACK and the hold timer stops (R154). -/
def State.endBenchHold (s : State) (i : Fin 8) : State :=
  ((s.endBenchContext i).setHolder i .rack).modSlot i fun sl => { sl with holdTimer := none }

/-- RELEASE (R153). -/
def cmdRelease (p : Party) (target _arg : Nibble) (s : State) : State × Reply :=
  match slotOf target with
  | none => s.refuse .badArg
  | some i =>
    if p = .rack then s.refuse .notPermitted
    else if s.upperPaired i then s.refuse .paired
    else if (s.slot i).holder ≠ .bench then s.refuse .notHolder
    else (s.endBenchHold i).reply .ok

/-- A running hold timer of a bench-held slot expires: the hold ends as at RELEASE, then EXPIRY is raised (R152). An expiry
that finds no running timer is not taken (R157; log entry 1). -/
def State.holdExpiry (s : State) (i : Fin 8) : State :=
  if (s.slot i).holder = .bench ∧ (s.slot i).holdTimer.isSome then
    (s.endBenchHold i).modSlot i fun sl => sl.raise .expiry
  else s

/-- HOLD-TIME (R151). -/
def cmdHoldTime (p : Party) (target _arg : Nibble) (op : Word) (s : State) : State × Reply :=
  if !isPart target then s.refuse .badArg
  else if p = .rack then s.refuse .notPermitted
  else
    State.reply { s with holdSetting := minutesStored op } (if minutesStored op = op.toNat then .ok else .clamped)

/-! ## Meanings -/

/-- TAKE (R147). -/
def execTake (p : Party) (target arg : Nibble) (s : State) : Host.Outcome State Fault Refusal :=
  s.command p .take target (cmdTake p target arg)

/-- RELEASE (R153). -/
def execRelease (p : Party) (target arg : Nibble) (s : State) : Host.Outcome State Fault Refusal :=
  s.command p .release target (cmdRelease p target arg)

/-- HOLD_TIME (R151). -/
def execHoldTime (p : Party) (target arg : Nibble) (op : Word) (s : State) : Host.Outcome State Fault Refusal :=
  s.command p .holdTime target (cmdHoldTime p target arg op)

/-- HOLD_TIMER_EXPIRY (R152). -/
def execHoldTimerExpiry (i : Fin 8) (s : State) : Host.Outcome State Fault Refusal := s.live fun s => s.holdExpiry i

end Sys2Proof.Machine
end

