-- ==== Sys2Proof/Machine/Stacks.lean ====
section
/-!
DEFINITION. The stack commands: EV-PEEK, EV-RETIRE, EV-FREE and EV-CLEAR (6.4).
-/

namespace Sys2Proof.Machine

/-- The entry at a depth is VALID. -/
def Slot.validAt (sl : Slot) (depth : Fin 8) : Bool := decide ((sl.entryAt depth).tag = .valid)

/-- The reply to a removal: OK where the entry was VALID, EMPTY where it was not (R116, R117). -/
def removalStatus (valid : Bool) : Status := if valid then .ok else .empty

/-- EV-PEEK's reply at a depth: the record's words, or EMPTY with one word of zeros (R115). -/
def Slot.peekReply (sl : Slot) (depth : Fin 8) : Reply :=
  if sl.validAt depth then Reply.report (sl.entryAt depth).record.words else { status := .empty, words := [0] }

/-- EV-PEEK (R115). -/
def cmdEvPeek (p : Party) (target arg : Nibble) (s : State) : State × Reply :=
  match slotOf arg with
  | none => s.refuse .badArg
  | some depth => s.onAnySlot p target fun i s => (s.slot i).peekReply depth

/-- A removing command of the holder; a pending slot refuses it (R96, R114). -/
def State.onStack (s : State) (p : Party) (target : Nibble) (remove : Slot → Slot × Status) : State × Reply :=
  s.onHeldSlot p target fun i s =>
    if (s.slot i).withheld.isSome then s.reply .pending
    else (s.modSlot i fun sl => (remove sl).1).reply (remove (s.slot i)).2

/-- The entry at TOP is tagged EMPTY and TOP moves forward (R116). -/
def Slot.retire (sl : Slot) : Slot :=
  let sl := sl.freeDepth 0
  { sl with top := sl.top + 1 }

/-- EV-RETIRE (R116). -/
def cmdEvRetire (p : Party) (target _arg : Nibble) (s : State) : State × Reply :=
  s.onStack p target fun sl => (sl.retire, removalStatus (sl.validAt 0))

/-- EV-FREE (R117). A depth of 8..15 is BAD-ARG before the other refusals (R114). -/
def cmdEvFree (p : Party) (target arg : Nibble) (s : State) : State × Reply :=
  match slotOf arg with
  | none => s.refuse .badArg
  | some depth => s.onStack p target fun sl => (sl.freeDepth depth, removalStatus (sl.validAt depth))

/-- EV-CLEAR (R118). -/
def cmdEvClear (p : Party) (target _arg : Nibble) (s : State) : State × Reply :=
  s.onStack p target fun sl => (sl.clearStack, .ok)

/-! ## Meanings -/

/-- EV_PEEK (R115). -/
def execEvPeek (p : Party) (target arg : Nibble) (s : State) : Host.Outcome State Fault Refusal :=
  s.command p .evPeek target (cmdEvPeek p target arg)

/-- EV_RETIRE (R116). -/
def execEvRetire (p : Party) (target arg : Nibble) (s : State) : Host.Outcome State Fault Refusal :=
  s.command p .evRetire target (cmdEvRetire p target arg)

/-- EV_FREE (R117). -/
def execEvFree (p : Party) (target arg : Nibble) (s : State) : Host.Outcome State Fault Refusal :=
  s.command p .evFree target (cmdEvFree p target arg)

/-- EV_CLEAR (R118). -/
def execEvClear (p : Party) (target arg : Nibble) (s : State) : Host.Outcome State Fault Refusal :=
  s.command p .evClear target (cmdEvClear p target arg)

end Sys2Proof.Machine
end

