-- ==== Sys2Proof/Machine/Pairs.lean ====
section
/-!
DEFINITION. Paired slots (08_paired_slots.md): PAIR, and what each channel's power outputs do (R2, R139, R140).
-/

namespace Sys2Proof.Machine

/-- The pair a PAIR's target names: 0..3 (R134). -/
def pairTarget (target : Nibble) : Option (Fin 4) :=
  if h : target.toNat < 4 then some ⟨target.toNat, h⟩ else none

/-- The mode a PAIR's argument names: 0, 1 or 2 (R134). -/
def modeOf (arg : Nibble) : Option PairMode :=
  match arg.toNat with
  | 0 => some .separate
  | 1 => some .gang
  | 2 => some .dual
  | _ => none

/-- PAIR is BUSY unless both active contexts are IDLE and neither slot has a parked context (R134). -/
def Slot.pairable (sl : Slot) : Bool := decide (sl.active.state = .idle) && !sl.parked.isSome

/-- A slot stands aside as the upper slot of a GANG or DUAL pair: it has the lower slot's holder, its hold timer is stopped
(R137), and its checker is at its starting values, where R59 says it stays while the pair is paired. That PAIR is the moment
at which a walk of the slot's own is dropped is DEDUCED, log entry 22. -/
def Slot.standAside (sl : Slot) (holder : Party) : Slot :=
  { sl with holder := holder, holdTimer := none, active := { sl.active with checker := Checker.initial } }

/-- A taken PAIR, in the order of R135: the upper slot unbinds, the mode changes, the converters restart where the pair
enters GANG or DUAL, both trip counts become 0, and in GANG and DUAL the upper slot stands aside (R59, R137). -/
def State.setPair (s : State) (pr : Fin 4) (mode : PairMode) : State :=
  let x := lowerOf pr
  let y := upperOf pr
  let old := (s.pair pr).mode
  let s := (s.releaseBinding y).modPair pr fun _ => { mode := mode, rails := none }
  let s :=
    if mode ≠ .separate ∧ mode ≠ old then (s.modChannel x Channel.restart).modChannel y Channel.restart else s
  let s := (s.modChannel x fun c => { c with tripCount := 0 }).modChannel y fun c => { c with tripCount := 0 }
  if mode = .separate then s
  else s.modSlot y fun sl => sl.standAside (s.slot x).holder

/-- PAIR (R134, R135). It names the lower slot of its pair for the hold timer (R150); refused NOT-HOLDER it restarts no
timer, NOT-HOLDER being no state condition (R146; DEDUCED, log entry 12). -/
def cmdPair (p : Party) (target arg : Nibble) (s : State) : State × Reply :=
  match pairTarget target, modeOf arg with
  | some pr, some mode =>
    let x := lowerOf pr
    let y := upperOf pr
    if (s.slot x).holder ≠ p ∨ (s.slot y).holder ≠ p then
      s.refuse .notHolder
    else
      let s := s.restartHold p x
      if (s.slot x).pairable && (s.slot y).pairable then (s.setPair pr mode).reply .ok else s.reply .busy
  | _, _ => s.refuse .badArg

/-! ## The power channels -/

/-- What a channel's outputs do: float, feed the board up to a presented limit, or bleed. -/
inductive ChannelDrive where
  | float
  | feed (limit : Nat)
  | bleed
deriving DecidableEq, Repr

/-- The limit a SEPARATE channel would be presented (R2): the surge limit in SURGE, else the soak limit. -/
def mainLimit (r : ProfileRecord) (sub : Option SubPhase) : Nat :=
  match sub with
  | some .surge => r.surgeLimit
  | _ => r.soakLimit

/-- A fed channel's drive in RUN-ON or MANUAL, by the pair's mode (R2, R139, R140). -/
def State.feedDrive (s : State) (ch gov : Fin 8) : ChannelDrive :=
  let r := s.activeRecord gov
  let c := (s.slot gov).active
  match s.mode gov with
  | .separate => .feed (mainLimit r c.subPhase)
  | .gang => .feed (mainLimit r c.subPhase / 2)
  | .dual =>
    let rails :=
      if c.state = .manual then (s.pair (pairOf gov)).rails
      else if c.subPhase = some .lead then some .standbyOnly else some .both
    if isUpper ch then if rails = some .both then .feed (mainLimit r c.subPhase) else .float
    else if rails = none then .float else .feed r.standbyLimit

/-- What a channel's outputs do now: they follow the active context of its governing slot (R2), and are off while the part
is held (R183). A feed is on only while no shelf hold is in force (R2). -/
def State.channelDrive (s : State) (ch : Fin 8) : ChannelDrive :=
  let gov := s.governor ch
  if s.held then .float
  else
    match (s.slot gov).active.state with
    | .runOn | .manual => if s.shelfHold then .float else s.feedDrive ch gov
    | .runBleed | .drain => .bleed
    | .idle | .runRest | .paused | .faulted => .float

/-! ## Meanings -/

/-- PAIR (R134). -/
def execPair (p : Party) (target arg : Nibble) (s : State) : Host.Outcome State Fault Refusal :=
  s.command p .pair target (cmdPair p target arg)

end Sys2Proof.Machine
end

