-- ==== Sys2Proof/Machine/Profiles.lean ====
section
/-!
DEFINITION. The profile store's commands: PROFILE-WRITE and PROFILE-READ (03_profiles.md).
-/

namespace Sys2Proof.Machine

/-- The record of a write is BAD-ARG: on-time 0, the fourth on-fail code, or a BAND whose carried A is greater than its
carried B (R51). -/
def badRecord (r : ProfileRecord) (action : Option OnFail) : Bool :=
  decide (r.onTime = 0) || action.isNone || r.stages.any Stage.badBand

/-- A write's record, carried, and its on-fail action where the code names one. -/
def writeCarried (ops : List Word) : ProfileRecord × Option OnFail :=
  let action := onFailOf (bitsOf (ops.getD 5 0) 30 2)
  (recordCarried ops (action.getD .carryOn), action)

/-- PROFILE-WRITE (R49, R51): a stage count of 0 or 13..15 is BAD-ARG; then the record's checks, then IN-USE; then the
whole record is replaced by the clamped one. -/
def cmdProfileWrite (_p : Party) (target arg : Nibble) (ops : List Word) (s : State) : State × Reply :=
  if profileWriteWords arg = 0 then s.refuse .badArg
  else
    let r := writeCarried ops
    if badRecord r.1 r.2 then s.refuse .badArg
    else if (s.profile (profileOf target)).useCount ≠ 0 then s.refuse .inUse
    else
      (s.modProfile (profileOf target) fun pr => { pr with record := r.1.stored }).reply
        (if r.1.stored = r.1 then .ok else .clamped)

/-- A PROFILE-READ reply: the id, stage count and use count, then the record words (R55, 12.5). -/
def State.profileWords (s : State) (id : Fin 16) : List Word :=
  let pr := s.profile id
  (field 4 0 id.val ||| field 4 8 pr.record.stages.length ||| field 5 16 pr.useCount) :: pr.record.words

/-- PROFILE-READ (R55). -/
def cmdProfileRead (_p : Party) (target _arg : Nibble) (s : State) : State × Reply :=
  (s, Reply.report (s.profileWords (profileOf target)))

/-! ## Meanings -/

/-- PROFILE_WRITE (R51): the command's operand words are the first 6 + 2 × (stage count) of the thirty (log entry
6). -/
def execProfileWrite (p : Party) (target arg : Nibble) (ops : Vector Word 30) (s : State) :
    Host.Outcome State Fault Refusal :=
  s.command p .profileWrite target (cmdProfileWrite p target arg (ops.toList.take (profileWriteWords arg)))

/-- PROFILE_READ (R55). -/
def execProfileRead (p : Party) (target arg : Nibble) (s : State) : Host.Outcome State Fault Refusal :=
  s.command p .profileRead target (cmdProfileRead p target arg)

end Sys2Proof.Machine
end

