-- ==== Sys2Proof/Machine/Faults.lean ====
section
/-!
DEFINITION. The fault table's commands: FAULT-READ, ALERT-MASK and PART-STATUS (10_faults_and_alert_lines.md).
-/

namespace Sys2Proof.Machine

/-- FAULT-READ's clearing at a slot (R165): the issuer's named marks always, the named flags F where the issuer holds the
slot and the slot is not the upper one of a paired pair; then the release of the withheld summary where that cleared CONV
(R166). -/
def Slot.readFaults (sl : Slot) (p : Party) (mask : BitVec 7) (clearsFlags : Bool) : Slot :=
  let released := clearsFlags && sl.flag .conv && mask.getLsbD SlotFault.conv.bit
  let sl := { sl with faults := sl.faults.clearMarks p mask }
  let sl := if clearsFlags then { sl with faults := sl.faults.clearFlags mask } else sl
  if released then sl.releaseWithheld else sl

/-- FAULT-READ (R164 to R166): target 0..7 a slot, 15 the part. -/
def cmdFaultRead (p : Party) (target _arg : Nibble) (op : Word) (s : State) : State × Reply :=
  if isPart target then
    let mask := partClearMask op
    ({ s with partFaults := (s.partFaults.clearMarks p mask).clearFlags mask }, Reply.report [s.partFaults.word])
  else
    match slotOf target with
    | none => s.refuse .badArg
    | some i =>
      let clearsFlags := decide ((s.slot i).holder = p) && !s.upperPaired i
      let s' := (s.restartHold p i).modSlot i fun sl => sl.readFaults p (slotClearMask op) clearsFlags
      (s', Reply.report [(s.slot i).faults.word])

/-- A port's alert mask is set (R170). -/
def State.setMask (s : State) (p : Party) (m : AlertMask) : State :=
  match p with
  | .rack => { s with rackMask := m }
  | .bench => { s with benchMask := m }

/-- ALERT-MASK (R170). -/
def cmdAlertMask (p : Party) (target _arg : Nibble) (op : Word) (s : State) : State × Reply :=
  if !isPart target then s.refuse .badArg else (s.setMask p (alertMaskOf op)).reply .ok

def ResetCause.code : ResetCause → Nat
  | .power => 0
  | .line => 1
  | .command => 2

def PairMode.code : PairMode → Nat
  | .separate => 0
  | .gang => 1
  | .dual => 2

/-- The two words of a PART-STATUS reply (R173, 12.6). -/
def State.partWords (s : State) : List Word :=
  [ field 2 0 s.resetCause.code ||| flagAt 2 s.trimBusy ||| field 4 4 s.programCount
      ||| field 2 8 (s.pair 0).mode.code ||| field 2 10 (s.pair 1).mode.code ||| field 2 12 (s.pair 2).mode.code
      ||| field 2 14 (s.pair 3).mode.code ||| flagAt 16 s.heat ||| flagAt 17 s.supplyLow
      ||| field 5 24 s.partFaults.f.toNat,
    field 10 0 s.sdiv ]

/-- PART-STATUS (R173). -/
def cmdPartStatus (_p : Party) (target _arg : Nibble) (s : State) : State × Reply :=
  if !isPart target then s.refuse .badArg else (s, Reply.report s.partWords)

/-! ## Meanings -/

/-- FAULT_READ (R164). -/
def execFaultRead (p : Party) (target arg : Nibble) (op : Word) (s : State) : Host.Outcome State Fault Refusal :=
  s.command p .faultRead target (cmdFaultRead p target arg op)

/-- ALERT_MASK (R170). -/
def execAlertMask (p : Party) (target arg : Nibble) (op : Word) (s : State) : Host.Outcome State Fault Refusal :=
  s.command p .alertMask target (cmdAlertMask p target arg op)

/-- PART_STATUS (R173). -/
def execPartStatus (p : Party) (target arg : Nibble) (s : State) : Host.Outcome State Fault Refusal :=
  s.command p .partStatus target (cmdPartStatus p target arg)

end Sys2Proof.Machine
end

