-- ==== Sys2Proof/Machine/Resets.lean ====
section
/-!
DEFINITION. The three resets (R183 to R185 and each block's reset table: R1, R28, R31, R37, R40, R56, R80, R102, R103,
R132, R133, R161, R172), DEVICE-RESET, the RESET line and the logic supply.
-/

namespace Sys2Proof.Machine

/-- A slot's values at any reset (R1, R102, R103, R161, R172): what its EMPTY entries held stays behind, out of reach. -/
def Slot.atReset (sl : Slot) : Slot := { Slot.reset with stack := sl.clearStack.stack }

/-- A channel at a reset: its converter restarts and its present current and trip count become 0 (R28, R30, R132); power-on
and the RESET line load the working values from the store, DEVICE-RESET keeps them (R31). -/
def Channel.atReset (c : Channel) (cause : ResetCause) : Channel :=
  { c with
    present := 0, tripCount := 0, conversion := 0
    trim := if cause = .command then c.trim else c.storedTrim
    gain := if cause = .command then c.gain else c.storedGain }

/-- A profile at a reset: emptied at power-on, else kept; bound by no context (R56). -/
def Profile.atReset (pr : Profile) (cause : ResetCause) : Profile :=
  { record := if cause = .power then ProfileRecord.empty else pr.record, useCount := 0 }

/-- A transaction in progress is abandoned: the bus is ignored until the next start condition (R183). -/
def Bus.abandon : Bus → Bus
  | .idle => .idle
  | _ => .ignored

/-- A read transaction that a DEVICE-RESET leaves in progress finds its queue emptied: no word stands sent in part. -/
def Bus.queueEmptied : Bus → Bus
  | .reading h _ fin => .reading h 0 fin
  | b => b

/-- The strapped bench address: 5Ch plus twice BAD1 plus BAD0 (R178). -/
def Pins.benchAddress (p : Pins) : BitVec 7 := 0x5C + BitVec.ofNat 7 (2 * p.bad1.toNat + p.bad0.toNat)

/-- The part faults after a reset: all cleared, RESTART raised, then HEAT and SUPPLY where the input is asserted (R172). -/
def resetFaults (heat supplyLow : Bool) : Marks 5 :=
  let m := (Marks.clear 5).raise PartFault.restart.bit
  let m := if heat then m.raise PartFault.heat.bit else m
  if supplyLow then m.raise PartFault.supply.bit else m

/-- Every block takes its values of the reset (R172, R185). The pins, the queue of commands and the trim store with its
program count are kept. -/
def State.resetAll (s : State) (cause : ResetCause) : State :=
  { s with
    slots := Vector.ofFn fun i => (s.slot i).atReset
    channels := Vector.ofFn fun i => (s.channel i).atReset cause
    pairs := Vector.replicate 4 Pair.reset
    profiles := Vector.ofFn fun i => (s.profile i).atReset cause
    sdiv := if cause = .command then s.sdiv else 249
    programming := none
    holdSetting := if cause = .command then s.holdSetting else 15
    partFaults := resetFaults s.pins.heat s.pins.supplyLow
    rackMask := if cause = .command then s.rackMask else AlertMask.unmasked
    benchMask := if cause = .command then s.benchMask else AlertMask.unmasked
    resetCause := cause
    heat := s.pins.heat
    supplyLow := s.pins.supplyLow
    rack := Port.reset
    bench := Port.reset
    holderByte := 0x00
    benchAddress := if cause = .command then s.benchAddress else s.pins.benchAddress
    bus := if cause = .command then s.bus.queueEmptied else s.bus.abandon }

/-- DEVICE-RESET (R160, R184): the whole part held, no programming; taken over every state of the slots. -/
def cmdDeviceReset (p : Party) (target _arg : Nibble) (s : State) : State × Reply :=
  if !isPart target then s.refuse .badArg
  else if !s.holdsAll p then s.refuse .notPermitted
  else if s.trimBusy then s.refuse .busy
  else (s.resetAll .command).reply .ok

/-- The part is held: a programming is abandoned with the store unchanged (R37), frames and transactions are abandoned
without a link fault, and nothing is driven (R183). -/
def State.hold (s : State) : State :=
  { s with programming := none, bus := s.bus.abandon, rdo := [], benchLine := .released }

/-! ## Meanings -/

/-- DEVICE_RESET (R184). -/
def execDeviceReset (p : Party) (target arg : Nibble) (s : State) : Host.Outcome State Fault Refusal :=
  s.command p .deviceReset target (cmdDeviceReset p target arg)

/-- RESET_LINE_ASSERTED (R183). -/
def execResetLineAsserted (s : State) : Host.Outcome State Fault Refusal :=
  .next (if s.pins.reset then s else { s with pins := { s.pins with reset := true } }.hold)

/-- RESET_LINE_RELEASED (R183): the RESET-line reset is taken, unless the logic supply still holds the part (log entry
13). -/
def execResetLineReleased (s : State) : Host.Outcome State Fault Refusal :=
  .next
    (if s.pins.reset then
      let s := { s with pins := { s.pins with reset := false } }
      if s.pins.logicSupply then s.resetAll .line else s
    else s)

/-- LOGIC_SUPPLY_LOSS (R183). -/
def execLogicSupplyLoss (s : State) : Host.Outcome State Fault Refusal :=
  .next (if s.pins.logicSupply then { s with pins := { s.pins with logicSupply := false } }.hold else s)

/-- POWER_ON (R183): the power-on reset is taken when the supply rises above its threshold, RESET released or not (log entry
13). -/
def execPowerOn (s : State) : Host.Outcome State Fault Refusal :=
  .next
    (if s.pins.logicSupply then s
    else { s with pins := { s.pins with logicSupply := true } }.resetAll .power)

end Sys2Proof.Machine
end

