-- ==== Sys2Proof/Machine/Ports.lean ====
section
/-!
DEFINITION. The rack line and the bench port (11_the_rack_line_and_the_bench_port.md): frames and units, the assembler, the
taking of assembled commands, and reply reading on both ports.
-/

namespace Sys2Proof.Machine

/-! ## Assembling and taking (11.3) -/

/-- What each command's block does, given the operand words in order of arrival (R181). -/
def Cmd.act (c : Cmd) (p : Party) (target arg : Nibble) (ops : List Word) : State → State × Reply :=
  match c with
  | .bind => cmdBind p target arg
  | .unbind => cmdUnbind p target arg
  | .start => cmdStart p target arg
  | .stop => cmdStop p target arg
  | .ack => cmdAck p target arg
  | .drive => cmdDrive p target arg (ops.getD 0 0)
  | .setConv => cmdSetConv p target arg (ops.getD 0 0)
  | .slotInit => cmdSlotInit p target arg
  | .status => cmdStatus p target arg
  | .summaryRead => cmdSummaryRead p target arg
  | .take => cmdTake p target arg
  | .release => cmdRelease p target arg
  | .holdTime => cmdHoldTime p target arg (ops.getD 0 0)
  | .evPeek => cmdEvPeek p target arg
  | .evRetire => cmdEvRetire p target arg
  | .evFree => cmdEvFree p target arg
  | .evClear => cmdEvClear p target arg
  | .faultRead => cmdFaultRead p target arg (ops.getD 0 0)
  | .alertMask => cmdAlertMask p target arg (ops.getD 0 0)
  | .profileWrite => cmdProfileWrite p target arg ops
  | .profileRead => cmdProfileRead p target arg
  | .pair => cmdPair p target arg
  | .partStatus => cmdPartStatus p target arg
  | .setSampling => cmdSetSampling p target arg (ops.getD 0 0)
  | .trimSet => cmdTrimSet p target arg (ops.getD 0 0)
  | .trimRead => cmdTrimRead p target arg
  | .trimProgram => cmdTrimProgram p target arg
  | .deviceReset => cmdDeviceReset p target arg

/-- An assembled command is taken; a code that names none is refused UNKNOWN, its code echoed (R180, R182). -/
def State.takeAssembled (s : State) (p : Party) (code : Byte) (target arg : Nibble) (ops : List Word) : State :=
  match Cmd.ofCode code with
  | some c => s.taken p c target (Cmd.act c p target arg ops)
  | none => s.answer p code target (Reply.bare .unknown)

/-- The operand frames a header awaits; an unknown code awaits none (R180). -/
def awaitedBy (code : Byte) (arg : Nibble) : Nat :=
  match Cmd.ofCode code with
  | some c => c.operandWords arg
  | none => 0

/-- A header that arrives while operands are awaited abandons the partial command and raises the port's link fault; the
reply queue and the previous status are left (R180). -/
def State.abandonPartial (s : State) (p : Party) : State :=
  if (s.port p).awaited = 0 then s
  else (s.modPort p fun port => { port with awaited := 0, partialCommand := none }).raiseLink p

/-- A header is handed to a port's assembler (R180). -/
def State.assembleHeader (s : State) (p : Party) (h : HeaderWord) : State :=
  let code : Byte := h.extractLsb' 8 8
  let target : Nibble := h.extractLsb' 4 4
  let arg : Nibble := h.extractLsb' 0 4
  let s := s.abandonPartial p
  if awaitedBy code arg = 0 then s.takeAssembled p code target arg []
  else
    s.modPort p fun port =>
      { port with
        awaited := awaitedBy code arg
        partialCommand := some { code := code, target := target, arg := arg, words := [] } }

/-- A data word is handed to a port's assembler: collected while operands are awaited, the command being taken at the last;
else discarded without a fault (R180). -/
def State.assembleData (s : State) (p : Party) (w : Word) : State :=
  match (s.port p).partialCommand, (s.port p).awaited with
  | some pc, n + 1 =>
    if n = 0 then
      (s.modPort p fun port => { port with awaited := 0, partialCommand := none }).takeAssembled p pc.code pc.target
        pc.arg (pc.words ++ [w])
    else
      s.modPort p fun port =>
        { port with awaited := n, partialCommand := some { pc with words := pc.words ++ [w] } }
  | _, _ => s

/-! ## The rack line (11.1) -/

/-- A byte's bits, bit 7 first. -/
def byteBits (b : Byte) : List Bool := (List.range 8).map fun i => b.getLsbD (7 - i)

/-- A word's bits, bit 31 first. -/
def wordBits (w : Word) : List Bool := (List.range 32).map fun i => w.getLsbD (31 - i)

/-- A previous status as its code, FFh for none (12.2). -/
def prevStatusCode : Option Status → Byte
  | none => Config.noCommand
  | some st => st.code

/-- RDO during a header frame: the marker, the alert summary, the previous status (R175). -/
def State.headerRdo (s : State) : List Bool := true :: (byteBits s.alertSummary ++ byteBits (prevStatusCode s.rack.prevStatus))

/-- RDO during a data frame: the flag and the head reply word, or zeros (R176). -/
def State.dataRdo (s : State) : List Bool :=
  match s.rack.replies with
  | [] => false :: wordBits 0
  | w :: _ => true :: wordBits w

/-- A frame's bits on RDO, as many as it had clocks; those past its 17th or 33rd are not recorded (log entry 7). -/
def State.driveRdo (s : State) (bits : List Bool) (clocks : Nat) : State := { s with rdo := bits.take clocks }

/-- A rack header frame completes (R174, R175): 17 clocks hand it to the assembler, any other count discards it and raises
RLINK; no clocks are no frame; the rest of a frame selected before a reset is ignored (R183). -/
def State.rackHeader (s : State) (clocks : Nat) (content : HeaderWord) (before : Bool) : State :=
  if clocks = 0 ∨ before then s
  else
    let s := s.driveRdo s.headerRdo clocks
    if clocks = 17 then s.assembleHeader .rack content else s.raiseLink .rack

/-- A rack data frame completes (R176): 33 clocks remove the head reply word and hand the frame to the assembler; any other
count discards it, the word staying at the head. -/
def State.rackData (s : State) (clocks : Nat) (content : Word) (before : Bool) : State :=
  if clocks = 0 ∨ before then s
  else
    let s := s.driveRdo s.dataRdo clocks
    if clocks = 33 then
      (s.modPort .rack fun port => { port with replies := port.replies.tail }).assembleData .rack content
    else s.raiseLink .rack

/-! ## The bench bus (11.2) -/

/-- The bus is in the middle of a unit: after its kind byte and before its last (R178). -/
def Bus.midUnit : Bus → Bool
  | .writing (_ :: _) => true
  | _ => false

/-- A start, repeated start or stop ends the transaction; one that falls within a unit discards it and raises BLINK
(R178). A start after a bad kind byte begins a new transaction (R177; log entry 10). -/
def State.endTransaction (s : State) (next : Bus) : State :=
  let s' := { s with bus := next, benchLine := .released }
  if s.bus.midUnit then s'.raiseLink .bench else s'

/-- The address byte of a transaction: acknowledged where the address is the bench address (R177). -/
def State.addressByte (s : State) (b : Byte) : State :=
  match s.bus with
  | .addressing =>
    if (b.extractLsb' 1 7 : BitVec 7) = s.benchAddress then
      { s with bus := if b.getLsbD 0 then .reading false 0 false else .writing [], benchLine := .acknowledged }
    else { s with bus := .ignored, benchLine := .released }
  | _ => s

/-- A header unit's three bytes: its kind, then the low and the high byte (12.3). -/
def headerBytes (h : HeaderWord) : List Byte := [0x01, h.extractLsb' 0 8, h.extractLsb' 8 8]

/-- A data unit's five bytes (12.3). -/
def dataBytes (w : Word) : List Byte :=
  [0x02, w.extractLsb' 0 8, w.extractLsb' 8 8, w.extractLsb' 16 8, w.extractLsb' 24 8]

/-- A byte of a write transaction (R178): between units a kind byte, 01h or 02h beginning a unit and any other being left
unacknowledged, raising BLINK and ending the port's part in the transaction; within a unit its next byte, the last one
handing the unit to the assembler. Nowhere else does the BX8 take a byte. -/
def State.writeByte (s : State) (b : Byte) : State :=
  match s.bus with
  | .writing [] =>
    if b = 0x01 ∨ b = 0x02 then { s with bus := .writing [b], benchLine := .acknowledged }
    else { s with bus := .rejected, benchLine := .unacknowledged }.raiseLink .bench
  | .writing [k, lo] =>
    if k = 0x01 then { s with bus := .writing [], benchLine := .acknowledged }.assembleHeader .bench (b ++ lo)
    else { s with bus := .writing [k, lo, b], benchLine := .acknowledged }
  | .writing [_, b0, b1, b2] =>
    { s with bus := .writing [], benchLine := .acknowledged }.assembleData .bench (b ++ b2 ++ b1 ++ b0)
  | .writing unit => { s with bus := .writing (unit ++ [b]), benchLine := .acknowledged }
  | .rejected => { s with benchLine := .unacknowledged }
  | .idle | .addressing | .ignored | .reading .. => s

/-- The bytes of a unit that have not arrived yet, where those that have agree with it. -/
def Bus.restOfUnit (bus : Bus) (bytes : List Byte) : Option (List Byte) :=
  match bus with
  | .writing unit => if unit.isPrefixOf bytes then some (bytes.drop unit.length) else none
  | _ => none

/-- A unit completes: its remaining bytes arrive, the last one handing it to the assembler (R178). Bytes of another unit
already begun, or a bus that is in no write transaction, leave no such event (log entry 8). -/
def State.completeUnit (s : State) (bytes : List Byte) : State :=
  match s.bus.restOfUnit bytes with
  | some rest => rest.foldl State.writeByte s
  | none => s

/-- The byte of a word at a place, low byte first. -/
def byteAt (w : Word) (n : Nat) : Byte := w.extractLsb' (8 * n) 8

/-- A byte of a read transaction (R179): the holder byte first, then the reply words, each removed at its fourth byte, then
FFh. Each byte sent becomes the holder byte of the next transaction. `acked` is the bench station's (log entry 9). -/
def State.readByte (s : State) (acked : Bool) : State :=
  match s.bus with
  | .reading false n false =>
    { s with bus := .reading true n (!acked), benchLine := .sent s.holderByte }
  | .reading true n false =>
    match s.bench.replies with
    | [] => { s with bus := .reading true 0 (!acked), holderByte := 0xFF, benchLine := .sent 0xFF }
    | w :: rest =>
      let b := byteAt w n
      { s with
        bus := .reading true (if 3 ≤ n then 0 else n + 1) (!acked)
        holderByte := b
        benchLine := .sent b
        bench := if 3 ≤ n then { s.bench with replies := rest } else s.bench }
  | _ => s

/-! ## Meanings -/

/-- RACK_HEADER_FRAME (R175). -/
def execRackHeaderFrame (clocks : Nat) (content : HeaderWord) (before : Bool) (s : State) :
    Host.Outcome State Fault Refusal :=
  s.live fun s => s.rackHeader clocks content before

/-- RACK_DATA_FRAME (R176). -/
def execRackDataFrame (clocks : Nat) (content : Word) (before : Bool) (s : State) : Host.Outcome State Fault Refusal :=
  s.live fun s => s.rackData clocks content before

/-- BENCH_START_CONDITION (R177). -/
def execBenchStartCondition (s : State) : Host.Outcome State Fault Refusal := s.live fun s => s.endTransaction .addressing

/-- BENCH_STOP_CONDITION (R177). -/
def execBenchStopCondition (s : State) : Host.Outcome State Fault Refusal := s.live fun s => s.endTransaction .idle

/-- BENCH_ADDRESS_BYTE (R177). -/
def execBenchAddressByte (b : Byte) (s : State) : Host.Outcome State Fault Refusal := s.live fun s => s.addressByte b

/-- BENCH_HEADER_UNIT (R178). -/
def execBenchHeaderUnit (content : HeaderWord) (s : State) : Host.Outcome State Fault Refusal :=
  s.live fun s => s.completeUnit (headerBytes content)

/-- BENCH_DATA_UNIT (R178). -/
def execBenchDataUnit (content : Word) (s : State) : Host.Outcome State Fault Refusal :=
  s.live fun s => s.completeUnit (dataBytes content)

/-- BAD_KIND_BYTE (R178). Within a unit no byte is a kind byte: there the byte is the unit's (log entry 8). -/
def execBadKindByte (b : Byte) (s : State) : Host.Outcome State Fault Refusal := s.live fun s => s.writeByte b

/-- BENCH_READ_BYTE (R179). -/
def execBenchReadByte (acked : Bool) (s : State) : Host.Outcome State Fault Refusal := s.live fun s => s.readByte acked

/-- BENCH_UNIT_BYTE (R178). -/
def execBenchUnitByte (b : Byte) (s : State) : Host.Outcome State Fault Refusal := s.live fun s => s.writeByte b

end Sys2Proof.Machine
end

