-- ==== Sys2Proof/Machine/Time.lean ====
section
/-!
DEFINITION. The passage of time while no command waits (log entry 2): which of the block's own events are due, which of
them comes first, and one microsecond's passing.
-/

namespace Sys2Proof.Machine

/-- The event a slot's phase timer gives when it reaches its duration (R9). -/
def phaseEvent (i : Fin 8) : SlotState → List Instr
  | .runOn => [.onTimeExpiry i]
  | .runBleed => [.bleedExpiry i]
  | .runRest => [.restExpiry i]
  | .drain => [.drainCompletion i]
  | .idle | .manual | .paused | .faulted => []

/-- A timer has reached a time given in 0.1 s. -/
def Timer.reached (t : Timer) (tenths : Nat) : Bool := decide (tenths * Config.tenthUs ≤ t.elapsed)

/-- The events due at a slot: the end of its phase, of its LEAD, of its bench hold (R9, R141, R152). -/
def State.slotDue (s : State) (i : Fin 8) : List Instr :=
  let sl := s.slot i
  (match sl.active.timer with
    | none => []
    | some t =>
      if t.reached t.duration then phaseEvent i sl.active.state
      else if decide (sl.active.subPhase = some .lead) && t.reached (s.activeRecord i).standbyLead then [.endOfLead i]
      else [])
  ++ (if sl.holder = .bench ∧ sl.holdTimer = some 0 then [.holdTimerExpiry i] else [])

/-- The sample events due: a channel's of a SEPARATE pair, or a pair's (R26, R27). Their codes are free values. -/
def State.samplesDue (s : State) (i : Fin 8) : List Instr :=
  if s.samplePeriod ≤ (s.channel i).conversion then
    if !s.isPaired i then [.sampleArrival i (Config.analogCode i.val s.freeUsed)]
    else if isUpper i then []
    else
      [.pairSampleEvent (pairOf i) (Config.analogCode i.val s.freeUsed) (Config.analogCode (i.val + 1) s.freeUsed)]
  else []

/-- The end of a trim programming, 40 ms after it began (R35). -/
def State.programmingDue (s : State) : List Instr :=
  match s.programming with
  | none => []
  | some pg => if Config.programmingUs ≤ pg.elapsed then [.trimProgrammingCompletion] else []

/-- Every event of the block's own that is due now; a held part takes none (R183). -/
def State.dueEvents (s : State) : List Instr :=
  if s.held then []
  else (List.finRange 8).flatMap (fun i => s.slotDue i ++ s.samplesDue i) ++ s.programmingDue

/-- The event taken first among those due: a free choice (R24, R25). -/
def firstDue (due : List Instr) (used : Nat) : Option Instr :=
  match due with
  | [] => none
  | [e] => some e
  | e :: rest => some ((e :: rest).getD (Config.firstTaken used % (rest.length + 1)) e)

/-- A free value is used. -/
def State.useFree (s : State) : State := { s with freeUsed := s.freeUsed + 1 }

/-- One microsecond passes at a slot: its phase timer and hold timer run (R9, R150). -/
def Slot.tick (sl : Slot) : Slot :=
  { sl with
    active := { sl.active with timer := sl.active.timer.map fun t => { t with elapsed := t.elapsed + 1 } }
    holdTimer := sl.holdTimer.map (· - 1) }

/-- One microsecond passes; in a held part the timers and converters stand (R183). -/
def State.tick (s : State) : State :=
  if s.held then s
  else
    { s with
      slots := Vector.ofFn fun i => (s.slot i).tick
      channels := Vector.ofFn fun i => { (s.channel i) with conversion := (s.channel i).conversion + 1 }
      programming := s.programming.map fun pg => { pg with elapsed := pg.elapsed + 1 } }

end Sys2Proof.Machine
end

