-- ==== Sys2Proof/Machine/Dispatch.lean ====
section
/-!
DEFINITION. What each command and event does: one arm a row of spec/opcode_table.json, each a call of its meaning.
-/

namespace Sys2Proof.Machine

def exec (i : Instr) (s : State) : Host.Outcome State Fault Refusal :=
  match i with
  | .bind p target arg => Sys2Proof.Machine.execBind p target arg s
  | .unbind p target arg => Sys2Proof.Machine.execUnbind p target arg s
  | .start p target arg => Sys2Proof.Machine.execStart p target arg s
  | .stop p target arg => Sys2Proof.Machine.execStop p target arg s
  | .ack p target arg => Sys2Proof.Machine.execAck p target arg s
  | .drive p target arg op => Sys2Proof.Machine.execDrive p target arg op s
  | .setConv p target arg op => Sys2Proof.Machine.execSetConv p target arg op s
  | .slotInit p target arg => Sys2Proof.Machine.execSlotInit p target arg s
  | .status p target arg => Sys2Proof.Machine.execStatus p target arg s
  | .summaryRead p target arg => Sys2Proof.Machine.execSummaryRead p target arg s
  | .take p target arg => Sys2Proof.Machine.execTake p target arg s
  | .release p target arg => Sys2Proof.Machine.execRelease p target arg s
  | .holdTime p target arg op => Sys2Proof.Machine.execHoldTime p target arg op s
  | .evPeek p target arg => Sys2Proof.Machine.execEvPeek p target arg s
  | .evRetire p target arg => Sys2Proof.Machine.execEvRetire p target arg s
  | .evFree p target arg => Sys2Proof.Machine.execEvFree p target arg s
  | .evClear p target arg => Sys2Proof.Machine.execEvClear p target arg s
  | .faultRead p target arg op => Sys2Proof.Machine.execFaultRead p target arg op s
  | .alertMask p target arg op => Sys2Proof.Machine.execAlertMask p target arg op s
  | .profileWrite p target arg ops => Sys2Proof.Machine.execProfileWrite p target arg ops s
  | .profileRead p target arg => Sys2Proof.Machine.execProfileRead p target arg s
  | .pair p target arg => Sys2Proof.Machine.execPair p target arg s
  | .partStatus p target arg => Sys2Proof.Machine.execPartStatus p target arg s
  | .setSampling p target arg op => Sys2Proof.Machine.execSetSampling p target arg op s
  | .trimSet p target arg op => Sys2Proof.Machine.execTrimSet p target arg op s
  | .trimRead p target arg => Sys2Proof.Machine.execTrimRead p target arg s
  | .trimProgram p target arg => Sys2Proof.Machine.execTrimProgram p target arg s
  | .deviceReset p target arg => Sys2Proof.Machine.execDeviceReset p target arg s
  | .sampleArrival ch code => Sys2Proof.Machine.execSampleArrival ch code s
  | .pairSampleEvent pr codeX codeY => Sys2Proof.Machine.execPairSampleEvent pr codeX codeY s
  | .onTimeExpiry slot => Sys2Proof.Machine.execOnTimeExpiry slot s
  | .bleedExpiry slot => Sys2Proof.Machine.execBleedExpiry slot s
  | .restExpiry slot => Sys2Proof.Machine.execRestExpiry slot s
  | .endOfLead slot => Sys2Proof.Machine.execEndOfLead slot s
  | .drainCompletion slot => Sys2Proof.Machine.execDrainCompletion slot s
  | .holdTimerExpiry slot => Sys2Proof.Machine.execHoldTimerExpiry slot s
  | .trimProgrammingCompletion => Sys2Proof.Machine.execTrimProgrammingCompletion s
  | .heatAsserted => Sys2Proof.Machine.execHeatAsserted s
  | .heatReleased => Sys2Proof.Machine.execHeatReleased s
  | .supplyLowAsserted => Sys2Proof.Machine.execSupplyLowAsserted s
  | .supplyLowReleased => Sys2Proof.Machine.execSupplyLowReleased s
  | .resetLineAsserted => Sys2Proof.Machine.execResetLineAsserted s
  | .resetLineReleased => Sys2Proof.Machine.execResetLineReleased s
  | .logicSupplyLoss => Sys2Proof.Machine.execLogicSupplyLoss s
  | .powerOn => Sys2Proof.Machine.execPowerOn s
  | .rackHeaderFrame clocks content before => Sys2Proof.Machine.execRackHeaderFrame clocks content before s
  | .rackDataFrame clocks content before => Sys2Proof.Machine.execRackDataFrame clocks content before s
  | .benchStartCondition => Sys2Proof.Machine.execBenchStartCondition s
  | .benchStopCondition => Sys2Proof.Machine.execBenchStopCondition s
  | .benchAddressByte b => Sys2Proof.Machine.execBenchAddressByte b s
  | .benchHeaderUnit content => Sys2Proof.Machine.execBenchHeaderUnit content s
  | .benchDataUnit content => Sys2Proof.Machine.execBenchDataUnit content s
  | .badKindByte b => Sys2Proof.Machine.execBadKindByte b s
  | .benchReadByte acked => Sys2Proof.Machine.execBenchReadByte acked s
  | .benchUnitByte b => Sys2Proof.Machine.execBenchUnitByte b s

end Sys2Proof.Machine
end

