-- ==== Sys2Proof/Machine/Step.lean ====
section
/-!
DEFINITION. One step of the block: the command at the front of the queue is taken; with none waiting, an event of the
block's own that is due is taken, or a microsecond passes (log entry 2).
-/

namespace Sys2Proof.Machine

/-- A step with no command waiting: a due event is taken, else a microsecond passes. -/
def idleStep (s : State) : Host.Outcome State Fault Refusal :=
  match firstDue s.dueEvents s.freeUsed with
  | some e => exec e s.useFree
  | none => .next s.tick

/-- One step. -/
def step (s : State) : Host.Outcome State Fault Refusal :=
  match s.pending with
  | c :: rest => exec c { s with pending := rest }
  | [] => idleStep s

/-- The state with the command a word spells at the front of its queue; no word spells one. -/
def State.withFetchWord (s : State) (nbits w : Nat) : State :=
  match decodeTableWord nbits w with
  | some c => { s with pending := c :: s.pending }
  | none => s

end Sys2Proof.Machine
end

