-- ==== Sys2Proof/Safety.lean ====
section
/-!
DEFINITION. What every run of the BX8 keeps, in the terms the statements use: each predicate is a rule of the spec about
the part as a whole.
-/

namespace Sys2Proof.Machine

/-- A slot holds a withheld summary exactly when its CONV flag is set (R95, R166). -/
abbrev Slot.PendingIsConv (sl : Slot) : Prop := sl.withheld.isSome = sl.flag .conv

/-- The same at every slot. -/
abbrev State.PendingIsConv (s : State) : Prop := ∀ i, (s.slot i).PendingIsConv

/-- How many contexts of a slot, active or parked, are bound to a profile. -/
def Slot.boundTo (sl : Slot) (p : Fin 16) : Nat :=
  (if sl.active.bound = some p then 1 else 0)
    + (match sl.parked with
      | none => 0
      | some c => if c.bound = some p then 1 else 0)

/-- How many contexts of the part are bound to a profile. -/
def State.contextsBoundTo (s : State) (p : Fin 16) : Nat :=
  (s.slot 0).boundTo p + (s.slot 1).boundTo p + (s.slot 2).boundTo p + (s.slot 3).boundTo p
    + (s.slot 4).boundTo p + (s.slot 5).boundTo p + (s.slot 6).boundTo p + (s.slot 7).boundTo p

/-- Every profile's use count equals the number of slot contexts, active or parked, bound to it (R53). -/
abbrev State.UseCountsMatch (s : State) : Prop := ∀ p, (s.profile p).useCount = s.contextsBoundTo p

/-- The upper slot of a GANG or DUAL pair has the lower slot's holder, an IDLE unbound active context, no parked context
and a stopped hold timer (R137). -/
abbrev State.UpperStandsAside (s : State) : Prop :=
  ∀ p : Fin 4, (s.pair p).mode ≠ .separate →
    (s.slot (upperOf p)).holder = (s.slot (lowerOf p)).holder ∧ (s.slot (upperOf p)).active.state = .idle
      ∧ (s.slot (upperOf p)).active.bound = none ∧ (s.slot (upperOf p)).parked = none
      ∧ (s.slot (upperOf p)).holdTimer = none

/-- The checker of such an upper slot is at its starting values (R59). -/
abbrev State.UpperCheckersAtStart (s : State) : Prop :=
  ∀ p : Fin 4, (s.pair p).mode ≠ .separate →
    (s.slot (upperOf p)).active.checker =
      { condition := .idle, stage := 0, j := 0, run := 0, armed := false, max := 0 }

/-- What a bench hold keeps at a slot: while the holder is BENCH the rack's context is parked and the hold timer runs, but
at the upper slot of a paired pair, which has neither; while it is RACK the timer is stopped (R137, R147, R150). A drain
that is to restore is a rack-held slot's, with the context to restore parked (R155). -/
abbrev State.BenchHoldsStand (s : State) : Prop :=
  ∀ i,
    ((s.slot i).holder = .bench → s.upperPaired i = false →
      (s.slot i).parked.isSome = true ∧ (s.slot i).holdTimer.isSome = true)
    ∧ ((s.slot i).holder = .rack → (s.slot i).holdTimer = none)
    ∧ ((s.slot i).active.drainNext = some .restore →
        (s.slot i).holder = .rack ∧ (s.slot i).parked.isSome = true)

/-- A slot has a parked context only while its holder is BENCH, or while it is in DRAIN with drain-next RESTORE (R148). -/
abbrev Slot.ParkedOnlyWhileHeld (sl : Slot) : Prop :=
  sl.parked.isSome →
    sl.holder = .bench ∨ (sl.active.state = .drain ∧ sl.active.drainNext = some .restore)

/-- The holds of the part stand as R137 and R148 give. -/
abbrev State.HoldsStand (s : State) : Prop := s.UpperStandsAside ∧ ∀ i, (s.slot i).ParkedOnlyWhileHeld

/-- The states whose phase timer runs (1.2). -/
def SlotState.timed : SlotState → Bool
  | .runOn | .runBleed | .runRest | .drain => true
  | .idle | .manual | .paused | .faulted => false

/-- A context's timer runs in the timed states alone; drain-next is absent outside DRAIN and sub-phase outside RUN-ON
(1.1, 1.2). -/
abbrev Context.Shaped (c : Context) : Prop :=
  c.timer.isSome = c.state.timed ∧ c.drainNext.isSome = decide (c.state = .drain)
    ∧ c.subPhase.isSome = decide (c.state = .runOn)

/-- Every active context has that shape. -/
abbrev State.Shaped (s : State) : Prop := ∀ i, (s.slot i).active.Shaped

/-- The states of a run or a manual drive, which need a binding. -/
def SlotState.needsProfile : SlotState → Bool
  | .manual | .runOn | .runBleed | .runRest | .paused => true
  | .idle | .drain | .faulted => false

/-- A context that is bound is bound to a non-empty profile (R42, R53), and a context of a run or a manual drive is bound
(R2). -/
abbrev State.ContextBound (s : State) (c : Context) : Prop :=
  (∀ p, c.bound = some p → (s.profile p).record.isEmpty = false)
    ∧ (c.state.needsProfile = true → c.bound.isSome = true)

/-- So is every context of the part, active or parked. -/
abbrev State.RunsAreBound (s : State) : Prop :=
  ∀ i, s.ContextBound (s.slot i).active ∧ ∀ c, (s.slot i).parked = some c → s.ContextBound c

/-- A port awaits operands exactly while it assembles a command, and awaits the words it lacks (R180). -/
def Port.assembly (port : Port) : Bool :=
  match port.partialCommand with
  | none => decide (port.awaited = 0)
  | some pc => decide (port.awaited ≠ 0) && decide (port.awaited + pc.words.length = awaitedBy pc.code pc.arg)

/-- Both assemblers stand so. -/
abbrev State.AssemblersStand (s : State) : Prop := s.rack.assembly = true ∧ s.bench.assembly = true

/-- The states in which a shelf hold finds something to stop (R129). -/
def SlotState.stoppedByHold : SlotState → Bool
  | .manual | .runOn | .runBleed | .runRest => true
  | .idle | .paused | .drain | .faulted => false

/-- While a shelf hold is in force no active context is in RUN-ON, RUN-BLEED, RUN-REST or MANUAL (R130). -/
abbrev State.HoldStopsRuns (s : State) : Prop :=
  s.shelfHold = true → ∀ i, (s.slot i).active.state.stoppedByHold = false

/-- The levels as taken are the live levels, while the part takes events (R128, R132). -/
abbrev State.LevelsTaken (s : State) : Prop :=
  s.held = false → s.heat = s.pins.heat ∧ s.supplyLow = s.pins.supplyLow

/-- A trim and a gain in range (R31, R34). -/
abbrev calibrationInRange (trim : Int) (gain : Nat) : Prop := -16 ≤ trim ∧ trim ≤ 15 ∧ gain ≤ 1023

/-- A channel's values lie in their ranges (2). -/
abbrev Channel.InRange (c : Channel) : Prop :=
  c.present ≤ 16364 ∧ calibrationInRange c.trim c.gain ∧ calibrationInRange c.storedTrim c.storedGain

/-- The captured values of a programming lie in their ranges. -/
abbrev Programming.InRange (pg : Programming) : Prop :=
  ∀ i : Fin 8, calibrationInRange (pg.captured[i]).1 (pg.captured[i]).2

/-- The sense chain's state and the hold-time setting lie in their ranges (R28 to R34, R151). -/
abbrev State.SenseInRange (s : State) : Prop :=
  (∀ i, (s.channel i).InRange) ∧ (24 ≤ s.sdiv ∧ s.sdiv ≤ 1023) ∧ s.programCount ≤ 15
    ∧ (1 ≤ s.holdSetting ∧ s.holdSetting ≤ 120) ∧ ∀ pg, s.programming = some pg → pg.InRange

/-- A context's counters lie in their ranges: D in 0..65535 and k in 0..4,294,967,295 (1.1). -/
abbrev Context.CountersInRange (c : Context) : Prop := c.d ≤ 65535 ∧ c.k ≤ 4294967295

/-- So do those of every context. -/
abbrev State.CountersInRange (s : State) : Prop :=
  ∀ i, (s.slot i).active.CountersInRange ∧ ∀ c, (s.slot i).parked = some c → c.CountersInRange

/-- The manual rail requests are absent outside MANUAL of a DUAL pair (8). -/
abbrev State.RailsOnlyInManual (s : State) : Prop :=
  ∀ p, (s.pair p).rails.isSome → (s.pair p).mode = .dual ∧ (s.slot (lowerOf p)).active.state = .manual

/-- A stage within the store's ranges (R43, R46, R48). -/
abbrev Stage.InRange (st : Stage) : Prop :=
  (1 ≤ st.dd ∧ st.dd ≤ 15) ∧ (1 ≤ st.window ∧ st.window ≤ 65535) ∧ st.a ≤ 32767 ∧ st.b ≤ 32767
    ∧ (st.kind = .band → st.a ≤ st.b)

/-- A profile record within the ranges of the table of 3.2, of 1 to 12 stages. -/
abbrev ProfileRecord.InRange (r : ProfileRecord) : Prop :=
  (r.surgeLimit ≤ 32767 ∧ r.soakLimit ≤ 32767 ∧ r.openThreshold ≤ 32767 ∧ r.standbyLimit ≤ 32767 ∧ r.driftLimit ≤ 32767)
    ∧ (max r.surgeLimit r.soakLimit ≤ r.tripLevel ∧ r.tripLevel ≤ 32767)
    ∧ (r.standbyLimit ≤ r.standbyTrip ∧ r.standbyTrip ≤ 32767)
    ∧ (1 ≤ r.onTime ∧ r.onTime ≤ 65535) ∧ r.offTime ≤ 65535 ∧ r.cycleCount ≤ 65535 ∧ r.surgeCode ≤ 255
    ∧ (r.bleed ≤ 255 ∧ r.bleed ≤ r.offTime) ∧ (r.standbyLead ≤ 255 ∧ r.standbyLead ≤ r.onTime - 1)
    ∧ (1 ≤ r.tripDebounce ∧ r.tripDebounce ≤ 15)
    ∧ (1 ≤ r.stages.length ∧ r.stages.length ≤ 12) ∧ ∀ st ∈ r.stages, st.InRange

/-- An empty profile's record: stage count 0 and every other field 0, whose on-fail code is CONTINUE's (R42, 12.5). -/
def ProfileRecord.zeros : ProfileRecord :=
  { surgeLimit := 0, soakLimit := 0, tripLevel := 0, openThreshold := 0, standbyLimit := 0, standbyTrip := 0
    onTime := 0, offTime := 0, cycleCount := 0, driftLimit := 0, surgeCode := 0, bleed := 0, standbyLead := 0
    tripDebounce := 0, action := .carryOn, stages := [] }

/-- Every profile is empty or holds a record within the store's ranges (3.2, R42). -/
abbrev State.StoreInRange (s : State) : Prop :=
  ∀ p, (s.profile p).record = ProfileRecord.zeros ∨ (s.profile p).record.InRange

/-- A run's completed-cycle count does not pass its profile's nonzero cycle count, and is below it while another on-phase
of the run is to come (R10). -/
def cyclesWithin (r : ProfileRecord) (c : Context) : Bool :=
  match c.state with
  | .runOn | .runRest => decide (r.cycleCount = 0) || decide (c.d < r.cycleCount)
  | .runBleed | .paused => decide (r.cycleCount = 0) || decide (c.d ≤ r.cycleCount)
  | .idle | .manual | .drain | .faulted => true

/-- So do those of every context of the part, each against the profile it is bound to. -/
abbrev State.CyclesWithin (s : State) : Prop :=
  ∀ i, cyclesWithin (s.activeRecord i) (s.slot i).active = true
    ∧ ∀ c, (s.slot i).parked = some c → cyclesWithin (s.recordOf c.bound) c = true

/-- A summary's converted fields lie in their ranges (R83, R88 to R91): the mean in 0..32728 or 65535, the charge in
0..65534 or 65535, the drift within ±32728, peak and I in 0..32728. -/
abbrev Summary.InRange (m : Summary) : Prop :=
  (m.mean ≤ 32728 ∨ m.mean = 65535) ∧ (m.charge ≤ 65534 ∨ m.charge = 65535)
    ∧ (∀ d, m.drift = some d → d.natAbs ≤ 32728) ∧ m.peak ≤ 32728 ∧ m.current ≤ 32728

/-- A context's sums are sums of input currents, and its summaries and baseline lie in their ranges (R81, R83, R92). -/
abbrev Context.ReportsInRange (c : Context) : Prop :=
  c.sum ≤ 32728 * c.n ∧ c.peak ≤ 32728 ∧ (∀ b, c.baseline = some b → b ≤ 523648)
    ∧ (∀ m, c.latest = some m → m.InRange) ∧ ∀ m, c.previous = some m → m.InRange

/-- So do those of every context, and every withheld summary. -/
abbrev State.ReportsInRange (s : State) : Prop :=
  ∀ i, (s.slot i).active.ReportsInRange ∧ (∀ c, (s.slot i).parked = some c → c.ReportsInRange)
    ∧ ∀ m, (s.slot i).withheld = some m → m.InRange

/-! ## The terms of the statements -/

/-- The other party. -/
def otherParty : Party → Party
  | .rack => .bench
  | .bench => .rack

/-- The target field that names a slot or a channel. -/
def slotField (i : Fin 8) : Nibble := BitVec.ofNat 4 i.val

/-- The target field that names a pair. -/
def pairField (p : Fin 4) : Nibble := BitVec.ofNat 4 p.val

/-- The argument field that carries a number. -/
def argField (n : Nat) : Nibble := BitVec.ofNat 4 n

/-- A party's command that changes a slot gets past the part's hold, PAIRED and NOT-HOLDER (R181, R183). -/
abbrev State.Reaches (s : State) (p : Party) (i : Fin 8) : Prop :=
  s.held = false ∧ s.upperPaired i = false ∧ (s.slot i).holder = p

/-- A slot's hold timer once its holder has given a command that names it: a bench command restarts it (R150). -/
def State.holdAfter (s : State) (p : Party) (i : Fin 8) : Option Nat :=
  if p = .bench then some s.holdFull else (s.slot i).holdTimer

/-- How a taken command leaves the two ports (R182): the issuer's reply queue is the status word and the report words, its
previous status the command's; what it is assembling, and the other port, are as they were. Of a bench read transaction in
progress only the count of bytes sent of the head word goes back to 0. -/
abbrev State.Answered (s : State) (p : Party) (c : Cmd) (target : Nibble) (st : Status) (words : List Word) (t : State) :
    Prop :=
  t.port p = { s.port p with replies := statusWord st c.code target words.length :: words, prevStatus := some st }
    ∧ t.port (otherParty p) = s.port (otherParty p)
    ∧ t.bus = if p = .bench then s.bus.queueEmptied else s.bus

/-- Nothing but the ports and the bench bus's place in its reply has changed. -/
abbrev State.OnlyPorts (s t : State) : Prop := t = { s with rack := t.rack, bench := t.bench, bus := t.bus }

/-- Besides the ports, only one slot has changed. -/
abbrev State.OnlySlot (s : State) (i : Fin 8) (t : State) : Prop :=
  (∀ j, j ≠ i → t.slot j = s.slot j) ∧ t = { s with slots := t.slots, rack := t.rack, bench := t.bench, bus := t.bus }

/-- Besides the ports, only one slot and trip counts of channels have changed. -/
abbrev State.OnlySlotAndTrips (s : State) (i : Fin 8) (t : State) : Prop :=
  (∀ j, j ≠ i → t.slot j = s.slot j)
    ∧ (∀ c, t.channel c = { s.channel c with tripCount := (t.channel c).tripCount })
    ∧ t = { s with slots := t.slots, channels := t.channels, rack := t.rack, bench := t.bench, bus := t.bus }

/-- Besides the ports, only one slot, trip counts of channels and the manual rail requests of the slot's pair have
changed. -/
abbrev State.OnlySlotTripsAndRails (s : State) (i : Fin 8) (t : State) : Prop :=
  (∀ j, j ≠ i → t.slot j = s.slot j)
    ∧ (∀ c, t.channel c = { s.channel c with tripCount := (t.channel c).tripCount })
    ∧ (∀ q, t.pair q = { s.pair q with rails := if q = pairOf i then (t.pair q).rails else (s.pair q).rails })
    ∧ t = { s with slots := t.slots, channels := t.channels, pairs := t.pairs, rack := t.rack, bench := t.bench,
                   bus := t.bus }

/-- An event of the block's own leaves the ports alone. -/
abbrev State.PortsKept (s t : State) : Prop := t.rack = s.rack ∧ t.bench = s.bench ∧ t.bus = s.bus

/-- The sub-phase at the start of an on-phase (R7, R8, R141). -/
def startSubPhase (r : ProfileRecord) (mode : PairMode) : SubPhase :=
  if mode = .dual ∧ r.standbyLead ≠ 0 then .lead else if r.surgeCode = 0 then .soak else .surge

/-- A context whose on-phase has just begun, from a context `c` (R7): everything but the binding, D, the summaries, the
baseline and the conversion control starts anew. -/
def Context.onPhaseFrom (c : Context) (r : ProfileRecord) (mode : PairMode) : Context :=
  { state := .runOn, drainNext := none, bound := c.bound, d := c.d
    timer := some { duration := r.onTime, elapsed := 0 }, subPhase := some (startSubPhase r mode), k := 0
    checker := { condition := .idle, stage := 0, j := 0, run := 0, armed := false, max := 0 }
    n := 0, sum := 0, peak := 0, latest := c.latest, previous := c.previous, baseline := c.baseline, conv := c.conv
    openReported := false }

/-- A slot enters a state that is not RUN-ON: no sub-phase, the timer and drain-next as given. -/
def Slot.inState (sl : Slot) (st : SlotState) (timer : Option Timer) (next : Option DrainNext) : Slot :=
  { sl with active := { sl.active with state := st, timer := timer, drainNext := next, subPhase := none } }

/-- A timer newly started. -/
def freshTimer (tenths : Nat) : Option Timer := some { duration := tenths, elapsed := 0 }

/-- A run is complete: its profile's cycle count is not 0 and D equals it (R10). -/
abbrev runDone (r : ProfileRecord) (d : Nat) : Prop := r.cycleCount ≠ 0 ∧ d = r.cycleCount

/-- The rest part of the off-phase (R45). -/
abbrev restOf (r : ProfileRecord) : Nat := r.offTime - r.bleed

/-- A drain's duration (R14). -/
abbrev drainOf (r : ProfileRecord) : Nat := max r.bleed 1

/-- A slot's hold timer once a party has given a read that names slot `i`: a bench read restarts the timer of the slot
that governs slot `i`, where the bench holds it (R150). -/
def State.readHold (s : State) (p : Party) (i j : Fin 8) : Option Nat :=
  if p = .bench ∧ j = s.governor i ∧ (s.slot j).holder = .bench then some s.holdFull else (s.slot j).holdTimer

/-- Besides the ports, a read changes no more than that. -/
abbrev State.OnlyReadHold (s : State) (p : Party) (i : Fin 8) (t : State) : Prop :=
  (∀ j, t.slot j = { s.slot j with holdTimer := s.readHold p i j })
    ∧ t = { s with slots := t.slots, rack := t.rack, bench := t.bench, bus := t.bus }

/-- A slot whose on-phase has just begun from the context `c` (R7, R126): its OPEN flag is cleared with the marks kept, and its
open count is 0. -/
def Slot.onPhaseFrom (sl : Slot) (c : Context) (r : ProfileRecord) (mode : PairMode) : Slot :=
  { sl with
    active := c.onPhaseFrom r mode, openCount := 0, faults := { sl.faults with f := sl.faults.f &&& 0b1111101 } }

/-- The run of a context goes on into the next on-phase at once, `hold` saying whether a shelf hold is in force (R12, R20,
R156). -/
abbrev State.goesOnAtOnce (s : State) (hold : Bool) (c : Context) : Prop :=
  ¬ runDone (s.recordOf c.bound) c.d ∧ hold = false ∧ restOf (s.recordOf c.bound) = 0

/-- A slot once the run of the context `c` has gone on, its bleed, its pause or its parking being over (R12, R20, R156): to IDLE
where the run is complete, to PAUSED where a shelf hold is in force, to RUN-REST where there is a rest, else to the next
on-phase at once. `sl` is the slot but for its active context. -/
def State.goneOn (s : State) (i : Fin 8) (hold : Bool) (sl : Slot) (c : Context) : Slot :=
  let r := s.recordOf c.bound
  if runDone r c.d then { sl with active := c }.inState .idle none none
  else if hold then { sl with active := c }.inState .paused none none
  else if restOf r ≠ 0 then { sl with active := c }.inState .runRest (freshTimer (restOf r)) none
  else sl.onPhaseFrom c r (s.mode i)

/-- The same, with the trip counts of the channels the slot governs becoming 0 where an on-phase begins (R121). -/
abbrev State.RunGoesOn (s : State) (i : Fin 8) (sl : Slot) (c : Context) (t : State) : Prop :=
  t.slot i = s.goneOn i s.shelfHold sl c
    ∧ ∀ ch, (t.channel ch).tripCount =
        if s.goesOnAtOnce s.shelfHold c ∧ s.governor ch = i then 0 else (s.channel ch).tripCount

/-- What follows an on-phase that ended by on-time expiry or by CUT (R12). `sl` is the slot with D risen; `count` gives the trip
counts so far. -/
abbrev State.OffPhaseFollows (s : State) (i : Fin 8) (sl : Slot) (count : Fin 8 → Nat) (t : State) : Prop :=
  let r := s.recordOf sl.active.bound
  (r.bleed ≠ 0 →
      t.slot i = sl.inState .runBleed (freshTimer r.bleed) none ∧ ∀ ch, (t.channel ch).tripCount = count ch)
    ∧ (r.bleed = 0 →
      t.slot i = s.goneOn i false sl sl.active
        ∧ ∀ ch, (t.channel ch).tripCount = if s.goesOnAtOnce false sl.active ∧ s.governor ch = i then 0 else count ch)

/-- The parked context `c` is restored at a slot (R156). A context is parked in no other state (R148). -/
abbrev State.Restores (s : State) (i : Fin 8) (sl : Slot) (c : Context) (t : State) : Prop :=
  (c.state = .idle ∨ c.state = .faulted →
      t.slot i = { sl with active := c }.inState c.state none none
        ∧ ∀ ch, (t.channel ch).tripCount = (s.channel ch).tripCount)
    ∧ (c.state = .runOn ∨ c.state = .runBleed ∨ c.state = .runRest ∨ c.state = .paused → s.RunGoesOn i sl c t)

/-- The use counts once a slot's active context has given up its binding (R53). -/
abbrev State.ReleasesBinding (s : State) (i : Fin 8) (t : State) : Prop :=
  ∀ q, t.profile q =
    { s.profile q with
      useCount := if (s.slot i).active.bound = some q then (s.profile q).useCount - 1 else (s.profile q).useCount }

/-- The bench's hold on a slot ends (R154): the holder becomes RACK and the timer stops, at the upper slot of its pair as
well; the bench's context is discarded with its binding; a drain to RESTORE begins or goes on, or the parked context is
restored at once. -/
abbrev State.BenchHoldEnds (s : State) (i : Fin 8) (t : State) : Prop :=
  let sl := s.slot i
  let st := sl.active.state
  let given := { sl with holder := .rack, holdTimer := none }
  let draining (timer : Option Timer) : Context :=
    { Context.reset with state := .drain, timer := timer, drainNext := some .restore }
  (st = .runOn →
      t.slot i =
        { (sl.formSummary (s.env i) .abort false) with
          active := draining (freshTimer (drainOf (s.activeRecord i))), holder := .rack, holdTimer := none })
    ∧ (st = .manual → t.slot i = { given with active := draining (freshTimer (drainOf (s.activeRecord i))) })
    ∧ (st = .runBleed ∨ st = .drain → t.slot i = { given with active := draining sl.active.timer })
    ∧ (st = .idle ∨ st = .runRest ∨ st = .paused ∨ st = .faulted →
        ∀ c, sl.parked = some c → s.Restores i { given with parked := none } c t)
    ∧ (∀ j, j ≠ i → t.slot j =
        { s.slot j with holder := if s.lowerPaired i ∧ j = upperOf (pairOf i) then .rack else (s.slot j).holder })
    ∧ (∀ c, t.channel c = { s.channel c with tripCount := (t.channel c).tripCount })
    ∧ (st = .runOn ∨ st = .manual ∨ st = .runBleed ∨ st = .drain →
        ∀ c, (t.channel c).tripCount = (s.channel c).tripCount)
    ∧ (∀ q, t.pair q = { s.pair q with rails := if st = .manual ∧ q = pairOf i then none else (s.pair q).rails })
    ∧ s.ReleasesBinding i t
    ∧ t = { s with slots := t.slots, channels := t.channels, pairs := t.pairs, profiles := t.profiles, rack := t.rack,
                   bench := t.bench, bus := t.bus }

/-- A named command as the party, command, target and argument it carries. -/
structure Named where
  party : Party
  cmd : Cmd
  target : Nibble
  arg : Nibble
deriving DecidableEq, Repr

/-- The named command a row is, if it is one; events and frames are none. -/
def namedOf : Instr → Option Named
  | .bind p t a => some ⟨p, .bind, t, a⟩
  | .unbind p t a => some ⟨p, .unbind, t, a⟩
  | .start p t a => some ⟨p, .start, t, a⟩
  | .stop p t a => some ⟨p, .stop, t, a⟩
  | .ack p t a => some ⟨p, .ack, t, a⟩
  | .drive p t a _ => some ⟨p, .drive, t, a⟩
  | .setConv p t a _ => some ⟨p, .setConv, t, a⟩
  | .slotInit p t a => some ⟨p, .slotInit, t, a⟩
  | .status p t a => some ⟨p, .status, t, a⟩
  | .summaryRead p t a => some ⟨p, .summaryRead, t, a⟩
  | .take p t a => some ⟨p, .take, t, a⟩
  | .release p t a => some ⟨p, .release, t, a⟩
  | .holdTime p t a _ => some ⟨p, .holdTime, t, a⟩
  | .evPeek p t a => some ⟨p, .evPeek, t, a⟩
  | .evRetire p t a => some ⟨p, .evRetire, t, a⟩
  | .evFree p t a => some ⟨p, .evFree, t, a⟩
  | .evClear p t a => some ⟨p, .evClear, t, a⟩
  | .faultRead p t a _ => some ⟨p, .faultRead, t, a⟩
  | .alertMask p t a _ => some ⟨p, .alertMask, t, a⟩
  | .profileWrite p t a _ => some ⟨p, .profileWrite, t, a⟩
  | .profileRead p t a => some ⟨p, .profileRead, t, a⟩
  | .pair p t a => some ⟨p, .pair, t, a⟩
  | .partStatus p t a => some ⟨p, .partStatus, t, a⟩
  | .setSampling p t a _ => some ⟨p, .setSampling, t, a⟩
  | .trimSet p t a _ => some ⟨p, .trimSet, t, a⟩
  | .trimRead p t a => some ⟨p, .trimRead, t, a⟩
  | .trimProgram p t a => some ⟨p, .trimProgram, t, a⟩
  | .deviceReset p t a => some ⟨p, .deviceReset, t, a⟩
  | .sampleArrival .. | .pairSampleEvent .. | .onTimeExpiry _ | .bleedExpiry _ | .restExpiry _ | .endOfLead _
  | .drainCompletion _ | .holdTimerExpiry _ | .trimProgrammingCompletion | .heatAsserted | .heatReleased
  | .supplyLowAsserted | .supplyLowReleased | .resetLineAsserted | .resetLineReleased | .logicSupplyLoss | .powerOn
  | .rackHeaderFrame .. | .rackDataFrame .. | .benchStartCondition | .benchStopCondition | .benchAddressByte _
  | .benchHeaderUnit _ | .benchDataUnit _ | .badKindByte _ | .benchReadByte _ | .benchUnitByte _ => none

/-- A refusal that leaves the whole part as it was: only the issuer's port answers, with the status word alone (R181,
R182). -/
abbrev State.RefusedPlainly (s : State) (n : Named) (st : Status) (t : State) : Prop :=
  s.Answered n.party n.cmd n.target st [] t ∧ s.OnlyPorts t

/-- The commands of a slot's holder whose target is checked for the slot alone (R145): not DRIVE and EV-FREE, whose
operand or depth is checked before the holder, nor TAKE and RELEASE, the bench's own. -/
def Cmd.ofHolder : Cmd → Bool
  | .bind | .unbind | .start | .stop | .ack | .setConv | .slotInit | .evRetire | .evClear => true
  | .drive | .status | .summaryRead | .take | .release | .holdTime | .evPeek | .evFree | .faultRead | .alertMask
  | .profileWrite | .profileRead | .pair | .partStatus | .setSampling | .trimSet | .trimRead | .trimProgram
  | .deviceReset => false

/-- The header's own BAD-ARG: a target or argument that the command does not code (R3, R49, R101, R114, R134, R147, R164,
12.4). DRIVE's operand and a PROFILE-WRITE's record have theirs besides. -/
def Named.badHeader (n : Named) : Bool :=
  let target := n.target.toNat
  let arg := n.arg.toNat
  match n.cmd with
  | .bind | .unbind | .start | .stop | .ack | .drive | .setConv | .slotInit | .status | .release | .evRetire | .evClear
  | .trimSet | .trimRead => decide (8 ≤ target)
  | .summaryRead => decide (8 ≤ target) || decide (3 ≤ arg)
  | .take => decide (8 ≤ target) || decide (2 ≤ arg)
  | .evPeek | .evFree => decide (8 ≤ target) || decide (8 ≤ arg)
  | .faultRead => decide (8 ≤ target) && decide (target ≠ 15)
  | .holdTime | .alertMask | .partStatus | .setSampling | .trimProgram | .deviceReset => decide (target ≠ 15)
  | .profileWrite => decide (arg = 0) || decide (12 < arg)
  | .profileRead => false
  | .pair => decide (4 ≤ target) || decide (3 ≤ arg)

/-- The status with which a slot's own conditions refuse a command of its holder, in the order of R181, steps 7 and 8,
and of the table of 1.2; none where it is taken. -/
def State.conditionRefusal (s : State) (i : Fin 8) (n : Named) : Option Status :=
  let st := (s.slot i).active.state
  let rest := st = .idle ∨ st = .faulted
  match n.cmd with
  | .bind =>
    if st ≠ .idle then some .busy
    else if (s.profile (profileOf n.arg)).record.stages.length = 0 then some .unbound else none
  | .unbind | .slotInit => if rest then none else some .busy
  | .start =>
    if (s.slot i).withheld.isSome then some .pending
    else if st ≠ .idle then some .busy
    else if (s.slot i).active.bound = none then some .unbound
    else if s.heat = true ∨ s.supplyLow = true then some .shelfHold else none
  | .stop => if rest then some .noRun else if st = .drain then some .busy else none
  | .ack =>
    if st = .idle then some .noRun
    else if st ≠ .faulted then some .busy
    else if (s.slot i).flag .trip ∨ (s.slot i).flag .signature then some .flagSet else none
  | .evRetire | .evClear => if (s.slot i).withheld.isSome then some .pending else none
  | _ => none

/-- The row that stands for a command taken at a port with its operand words in order. -/
def rowOf (p : Party) (c : Cmd) (target arg : Nibble) (words : List Word) : Instr :=
  match c with
  | .bind => .bind p target arg
  | .unbind => .unbind p target arg
  | .start => .start p target arg
  | .stop => .stop p target arg
  | .ack => .ack p target arg
  | .drive => .drive p target arg (words.getD 0 0)
  | .setConv => .setConv p target arg (words.getD 0 0)
  | .slotInit => .slotInit p target arg
  | .status => .status p target arg
  | .summaryRead => .summaryRead p target arg
  | .take => .take p target arg
  | .release => .release p target arg
  | .holdTime => .holdTime p target arg (words.getD 0 0)
  | .evPeek => .evPeek p target arg
  | .evRetire => .evRetire p target arg
  | .evFree => .evFree p target arg
  | .evClear => .evClear p target arg
  | .faultRead => .faultRead p target arg (words.getD 0 0)
  | .alertMask => .alertMask p target arg (words.getD 0 0)
  | .profileWrite => .profileWrite p target arg (Vector.ofFn fun k => words.getD k.val 0)
  | .profileRead => .profileRead p target arg
  | .pair => .pair p target arg
  | .partStatus => .partStatus p target arg
  | .setSampling => .setSampling p target arg (words.getD 0 0)
  | .trimSet => .trimSet p target arg (words.getD 0 0)
  | .trimRead => .trimRead p target arg
  | .trimProgram => .trimProgram p target arg
  | .deviceReset => .deviceReset p target arg

/-- The header word that spells a command (12.2). -/
def headerOf (code : Byte) (target arg : Nibble) : HeaderWord := code ++ (target ++ arg : BitVec 8)

/-- A stage fed the samples of a list in turn until it is decided, each against the same phase limit. -/
def Stage.over (st : Stage) (limit : Nat) (c : Checker) : List Nat → Checker × StageResult
  | [] => (c, .open)
  | current :: rest =>
    match st.takeSample limit current c with
    | (c', .open) => st.over limit c' rest
    | (c', .pass) => (c', .pass)
    | (c', .fail cause) => (c', .fail cause)

/-- A checker fed counted samples in turn, each with its phase limit. -/
def Checker.over (stages : List Stage) : Checker → List (Nat × Nat) → Checker
  | c, [] => c
  | c, (limit, current) :: rest => Checker.over stages (c.step stages limit current).1 rest

/-- `count` samples in a row, among the first `w` of a list, that all meet a test. -/
def hasRun (test : Nat → Bool) (samples : List Nat) (w count : Nat) : Prop :=
  ∃ m, m + count ≤ min samples.length w ∧ ∀ k, k < count → test (samples.getD (m + k) 0) = true

/-! ## Samples -/

/-- A sample event reaches a slot: an arrival at the channel of a SEPARATE slot, or a pair's event at its lower slot (R26, R27).
`u` is the state with the present currents calibrated (R29), before the slot does any work with the sample (R30). -/
abbrev State.SampleReaches (s : State) (row : Instr) (i : Fin 8) (u : State) : Prop :=
  (∃ code, row = .sampleArrival i code ∧ s.isPaired i = false ∧ u = s.modChannel i fun c => c.arrive code)
    ∨ ∃ pr x y, row = .pairSampleEvent pr x y ∧ i = lowerOf pr ∧ s.isPaired i = true
        ∧ u = (s.modChannel i fun c => c.arrive x).modChannel (upperOf pr) fun c => c.arrive y

/-- The trip level applied to a channel at a sample of slot `i`, none where it is not checked (the table of R120). -/
def State.appliedLevel (s : State) (i ch : Fin 8) : Option Nat :=
  let r := s.activeRecord i
  let c := (s.slot i).active
  let rails := (s.pair (pairOf i)).rails
  match s.mode i with
  | .separate => if ch = i then some r.tripLevel else none
  | .gang => if pairOf ch = pairOf i then some (r.tripLevel / 2) else none
  | .dual =>
    if ch = lowerOf (pairOf i) then if c.state = .runOn ∨ rails ≠ none then some r.standbyTrip else none
    else if ch = upperOf (pairOf i) then
      if (c.state = .runOn ∧ c.subPhase ≠ some .lead) ∨ (c.state = .manual ∧ rails = some .both) then some r.tripLevel
      else none
    else none

/-- A channel's trip count after the check (R121). -/
def State.countAfter (s : State) (i ch : Fin 8) : Nat :=
  match s.appliedLevel i ch with
  | none => (s.channel ch).tripCount
  | some level => if level ≤ (s.channel ch).present then (s.channel ch).tripCount + 1 else 0

/-- A channel trips at this sample: it is checked and its count reaches the trip debounce (R121). -/
abbrev State.trips (s : State) (i ch : Fin 8) : Prop :=
  (s.appliedLevel i ch).isSome = true ∧ s.countAfter i ch = (s.activeRecord i).tripDebounce

/-- A record that a slot's context makes now, with input current `current` (R110); `k` is the sample index it carries. -/
def Slot.recordOf (sl : Slot) (k current : Nat) (body : RecordBody) : Record :=
  { holder := sl.holder, afterLoss := false, profile := sl.active.bound.getD 0
    cycle := if sl.active.state = .manual then 0 else min (sl.active.d + 1) 65535, k := k, current := current, body := body }

/-- A slot whose open stage has just failed (R68, R69): FAILED, SIGNATURE raised, the SIGFAIL record pushed. -/
def Slot.failed (sl : Slot) (r : ProfileRecord) (current : Nat) (cause : Cause) : Slot :=
  let c := sl.active
  let kind := ((r.stages[c.checker.stage]?).map Stage.kind).getD .wait
  let m := if kind = .dip then some c.checker.max else none
  ({ sl with active := { c with checker := { c.checker with condition := .failed } } }.raise .signature).push
    (sl.recordOf c.k current (.sigfail c.checker.stage kind cause m))

/-- A slot with a counted sample taken as far as the accumulators (R23, R8, R81, R126, R127), `current` being its input
current. -/
def Slot.counted (sl : Slot) (r : ProfileRecord) (current : Nat) : Slot :=
  let c := sl.active
  let k := min (c.k + 1) 4294967295
  let surge := r.surgeCode = 255 ∨ k ≤ 16 * r.surgeCode
  let checked := ¬ surge ∧ r.openThreshold ≠ 0 ∧ c.openReported = false
  let count := if current < r.openThreshold then sl.openCount + 1 else 0
  let opens := checked ∧ 64 ≤ count
  let sl' := { sl with openCount := if checked then count else sl.openCount }
  let sl' := if opens then (sl'.raise .opened).push (sl.recordOf k current (.opened r.openThreshold)) else sl'
  { sl' with
    active := { c with
      k := k, subPhase := some (if r.surgeCode = 255 ∨ k < 16 * r.surgeCode then .surge else .soak)
      n := c.n + 1, sum := c.sum + current, peak := max c.peak current
      openReported := if opens then true else c.openReported } }

/-! ## Resets and the assemblers -/

/-- The part after a reset, but for its ports (R1, R28, R31, R37, R40, R56, R102, R103, R132, R133, R161, R170, R172, R178, R185). -/
abbrev State.ResetFrom (s : State) (cause : ResetCause) (t : State) : Prop :=
  (∀ i, (t.slot i).active = Context.reset ∧ (t.slot i).holder = .rack ∧ (t.slot i).parked = none
      ∧ (t.slot i).holdTimer = none ∧ (t.slot i).withheld = none ∧ (t.slot i).top = 0 ∧ (t.slot i).openCount = 0
      ∧ (t.slot i).faults = { f := 0, uRack := 0, uBench := 0 } ∧ ∀ n : Fin 8, ((t.slot i).stack[n]).tag = .empty)
    ∧ (∀ c, t.channel c =
        { s.channel c with
          present := 0, tripCount := 0, conversion := 0
          trim := if cause = .command then (s.channel c).trim else (s.channel c).storedTrim
          gain := if cause = .command then (s.channel c).gain else (s.channel c).storedGain })
    ∧ (∀ q, t.pair q = { mode := .separate, rails := none })
    ∧ (∀ q, (t.profile q).useCount = 0
        ∧ (cause = .power → (t.profile q).record = ProfileRecord.zeros)
        ∧ (cause ≠ .power → (t.profile q).record = (s.profile q).record))
    ∧ t.sdiv = (if cause = .command then s.sdiv else 249)
    ∧ t.holdSetting = (if cause = .command then s.holdSetting else 15)
    ∧ (∀ p, t.mask p = if cause = .command then s.mask p else { slotKinds := 0, partKinds := 0 })
    ∧ t.benchAddress =
        (if cause = .command then s.benchAddress
        else if s.pins.bad1 then (if s.pins.bad0 then 0x5F else 0x5E) else if s.pins.bad0 then 0x5D else 0x5C)
    ∧ (let raised : BitVec 5 :=
         0b00100 ||| (if s.pins.heat then 0b00001 else 0) ||| (if s.pins.supplyLow then 0b00010 else 0)
       t.partFaults = { f := raised, uRack := raised, uBench := raised })
    ∧ t.resetCause = cause ∧ t.heat = s.pins.heat ∧ t.supplyLow = s.pins.supplyLow ∧ t.holderByte = 0x00
    ∧ t.programming = none ∧ t.programCount = s.programCount ∧ t.rdo = s.rdo ∧ t.benchLine = s.benchLine
    ∧ t.freeUsed = s.freeUsed ∧ t.pending = s.pending

/-- The part faults with those of a mask raised, each with both unseen marks (R162). -/
def raised (m : Marks 5) (bits : BitVec 5) : Marks 5 :=
  { f := m.f ||| bits, uRack := m.uRack ||| bits, uBench := m.uBench ||| bits }

/-- A port with nothing being assembled. -/
def Port.cleared (port : Port) : Port := { port with awaited := 0, partialCommand := none }

/-- Where a header finds operands awaited, the partial command is abandoned and the port's link fault raised (R180). -/
def State.linkBroken (s : State) (p : Party) : State :=
  if (s.port p).awaited = 0 then s
  else
    { (s.modPort p Port.cleared) with partFaults := raised s.partFaults (if p = .rack then 0b01000 else 0b10000) }

/-- The outcome of a header handed to a port's assembler (R180, R182): a command that awaits nothing is taken, as its row; one that
awaits operands becomes the partial command; a code that names none is answered UNKNOWN. -/
abbrev HeaderAssembles (p : Party) (code : Byte) (target arg : Nibble) (s : State) (o : Host.Outcome State Fault Refusal) :
    Prop :=
  (∀ c : Cmd, c.code = code → c.operandWords arg = 0 → o = exec (rowOf p c target arg []) (s.linkBroken p))
    ∧ (∀ c : Cmd, c.code = code → c.operandWords arg ≠ 0 →
        o = .next
          ((s.linkBroken p).modPort p fun port =>
            { port with
              awaited := c.operandWords arg
              partialCommand := some { code := code, target := target, arg := arg, words := [] } }))
    ∧ ((∀ c : Cmd, c.code ≠ code) →
        ∃ t, o = .next t
          ∧ t.port p =
              { (s.linkBroken p).port p with replies := [statusWord .unknown code target 0], prevStatus := some .unknown }
          ∧ t.port (otherParty p) = s.port (otherParty p)
          ∧ t.bus = (if p = .bench then s.bus.queueEmptied else s.bus)
          ∧ t = { s.linkBroken p with rack := t.rack, bench := t.bench, bus := t.bus })

/-- The outcome of a data word handed to a port's assembler (R180): discarded where none is awaited, else collected; at the last
the command is taken, as its row. -/
abbrev DataAssembles (p : Party) (w : Word) (s : State) (o : Host.Outcome State Fault Refusal) : Prop :=
  ((s.port p).awaited = 0 → o = .next s)
    ∧ ∀ pc, (s.port p).partialCommand = some pc →
        (∀ n, (s.port p).awaited = n + 2 →
          o = .next
            (s.modPort p fun port =>
              { port with awaited := n + 1, partialCommand := some { pc with words := pc.words ++ [w] } }))
        ∧ ((s.port p).awaited = 1 → ∀ c : Cmd, c.code = pc.code →
            o = exec (rowOf p c pc.target pc.arg (pc.words ++ [w])) (s.modPort p Port.cleared))

end Sys2Proof.Machine
end

