-- ==== Sys2Proof/WellFormed.lean ====
section
/-!
DEFINITION. Which terms of `Instr` stand for a command or event of the spec. `exec` is total on all terms; these checks
say which ones the spec speaks of.
-/

namespace Sys2Proof

/-- A PROFILE-WRITE holds no word beyond its own operands: each later place of the 30 reads 0. -/
def profileWriteExact (arg : Nibble) (ops : Vector Word 30) : Bool :=
  (ops.toList.drop (profileWriteWords arg)).all (· == 0)

/-- The well-formed commands and events: a PROFILE-WRITE has exactly its words; a rack frame has at least the clock of its
kind bit (a select with no clocks is not a frame, R174); a bad kind byte is neither 01h nor 02h (R178). -/
def Instr.wf : Instr → Bool
  | .profileWrite _ _ arg ops => profileWriteExact arg ops
  | .rackHeaderFrame clocks _ _ => decide (1 ≤ clocks)
  | .rackDataFrame clocks _ _ => decide (1 ≤ clocks)
  | .badKindByte b => b != 0x01 && b != 0x02
  | .bind .. | .unbind .. | .start .. | .stop .. | .ack .. | .drive .. | .setConv .. | .slotInit .. | .status ..
  | .summaryRead .. | .take .. | .release .. | .holdTime .. | .evPeek .. | .evRetire .. | .evFree .. | .evClear ..
  | .faultRead .. | .alertMask .. | .profileRead .. | .pair .. | .partStatus .. | .setSampling .. | .trimSet ..
  | .trimRead .. | .trimProgram .. | .deviceReset .. | .sampleArrival .. | .pairSampleEvent .. | .onTimeExpiry _
  | .bleedExpiry _ | .restExpiry _ | .endOfLead _ | .drainCompletion _ | .holdTimerExpiry _
  | .trimProgrammingCompletion | .heatAsserted | .heatReleased | .supplyLowAsserted | .supplyLowReleased
  | .resetLineAsserted | .resetLineReleased | .logicSupplyLoss | .powerOn | .benchStartCondition
  | .benchStopCondition | .benchAddressByte _ | .benchHeaderUnit _ | .benchDataUnit _ | .benchReadByte _
  | .benchUnitByte _ => true

end Sys2Proof
end

