-- ==== Sys2Proof/Certificates/Slice0/Obligations.lean ====
section
/-!
DEFINITION. The statements about the BX8, for the provers. Each `def Obligations.<Name> : Prop` says one thing; its docstring
names the rules it rests on. OBLIGATIONS.json lists them.
-/

section
open Sys2Proof Sys2Proof.Machine

/-! ## The machine -/

/-- The block's one law of the queue: a step takes the command at its front, on the state with the queue's rest. -/
def Obligations.StepTakesTheFrontCommand : Prop :=
  ∀ (c : Instr) (rest : List Instr) (s : State), s.pending = c :: rest → step s = exec c { s with pending := rest }

/-- Every command and event completes in every state, and leaves the queue of waiting commands alone: a refusal is a reply
(R181), an event that cannot arise is not taken. The second is the model's choice (log entry 1). -/
def Obligations.EveryCommandCompletes : Prop :=
  ∀ (c : Instr) (s : State), ∃ t, exec c s = .next t ∧ t.pending = s.pending

/-- The model's clock (log entry 2), by which the timers of R9, R28, R35 and R150 run: with no command waiting, a held part
stands; a part with no event of its own due lets one microsecond pass; else one of the events due is taken, any of them where
several are (R24, R25; log entry 17). Due are: the end of a phase whose timer has reached its duration (R9); the end of LEAD
once the standby lead has elapsed and the on-time has not (R141); the end of a bench hold with no time left (R152); the
completion of a programming after 40 ms (R35); a channel's arrival, or a pair's event, after one sample period (R26 to R28);
and nothing else. -/
def Obligations.IdleStepPassesTimeOrTakesTheDueEvent : Prop :=
  (∀ s : State, s.pending = [] → s.held = true → step s = .next s)
  ∧ (∀ s : State, s.pending = [] → s.held = false → s.dueEvents = [] →
      ∃ t, step s = .next t
        ∧ (∀ i, t.slot i =
            { s.slot i with
              active := { (s.slot i).active with
                timer := (s.slot i).active.timer.map fun x => { x with elapsed := x.elapsed + 1 } }
              holdTimer := (s.slot i).holdTimer.map (· - 1) })
        ∧ (∀ c, t.channel c = { s.channel c with conversion := (s.channel c).conversion + 1 })
        ∧ t.programming = s.programming.map (fun x => { x with elapsed := x.elapsed + 1 })
        ∧ t = { s with slots := t.slots, channels := t.channels, programming := t.programming })
  ∧ (∀ s : State, s.pending = [] → s.dueEvents ≠ [] →
      ∃ e, e ∈ s.dueEvents ∧ step s = exec e { s with freeUsed := s.freeUsed + 1 })
  ∧ ∀ s : State, s.held = false →
      (∀ i : Fin 8,
        let c := (s.slot i).active
        let expired := ∃ x, c.timer = some x ∧ x.duration * 100000 ≤ x.elapsed
        (.onTimeExpiry i ∈ s.dueEvents ↔ c.state = .runOn ∧ expired)
        ∧ (.bleedExpiry i ∈ s.dueEvents ↔ c.state = .runBleed ∧ expired)
        ∧ (.restExpiry i ∈ s.dueEvents ↔ c.state = .runRest ∧ expired)
        ∧ (.drainCompletion i ∈ s.dueEvents ↔ c.state = .drain ∧ expired)
        ∧ (.endOfLead i ∈ s.dueEvents ↔
            c.subPhase = some .lead
              ∧ ∃ x, c.timer = some x ∧ (s.activeRecord i).standbyLead * 100000 ≤ x.elapsed
                  ∧ x.elapsed < x.duration * 100000)
        ∧ (.holdTimerExpiry i ∈ s.dueEvents ↔ (s.slot i).holder = .bench ∧ (s.slot i).holdTimer = some 0)
        ∧ ((∃ code, .sampleArrival i code ∈ s.dueEvents) ↔
            s.mode i = .separate ∧ 4 * (s.sdiv + 1) ≤ (s.channel i).conversion))
      ∧ (∀ p : Fin 4, (∃ x y, .pairSampleEvent p x y ∈ s.dueEvents) ↔
          (s.pair p).mode ≠ .separate ∧ 4 * (s.sdiv + 1) ≤ (s.channel (lowerOf p)).conversion)
      ∧ (.trimProgrammingCompletion ∈ s.dueEvents ↔ ∃ x, s.programming = some x ∧ 40000 ≤ x.elapsed)
      ∧ ∀ e ∈ s.dueEvents,
          (∃ i, e = .onTimeExpiry i ∨ e = .bleedExpiry i ∨ e = .restExpiry i ∨ e = .drainCompletion i ∨ e = .endOfLead i
            ∨ e = .holdTimerExpiry i ∨ ∃ code, e = .sampleArrival i code)
          ∨ (∃ p x y, e = .pairSampleEvent p x y) ∨ e = .trimProgrammingCompletion

/-- The state right after the first power-on (R1, R28, R34, R40, R42, R56, R102, R103, R132, R133, R151, R161, R170, R172,
R185), with the shelf inputs released and the straps low (log entry 3). -/
def Obligations.ResetStateHoldsThePowerOnValues : Prop :=
  (∀ i, (State.reset.slot i).active =
    { state := .idle, drainNext := none, bound := none, d := 0, timer := none, subPhase := none, k := 0
      checker := { condition := .idle, stage := 0, j := 0, run := 0, armed := false, max := 0 }
      n := 0, sum := 0, peak := 0, latest := none, previous := none, baseline := none
      conv := { rounding := .nearestEven, meanUnmasked := false, chargeUnmasked := false, policy := .keepNewest }
      openReported := false })
  ∧ (∀ i, (State.reset.slot i).holder = .rack ∧ (State.reset.slot i).parked = none
      ∧ (State.reset.slot i).holdTimer = none ∧ (State.reset.slot i).withheld = none
      ∧ (State.reset.slot i).top = 0 ∧ (State.reset.slot i).openCount = 0
      ∧ (State.reset.slot i).faults = { f := 0, uRack := 0, uBench := 0 }
      ∧ ∀ n : Fin 8, ((State.reset.slot i).stack[n]).tag = .empty)
  ∧ (∀ c, (State.reset.channel c).present = 0 ∧ (State.reset.channel c).tripCount = 0
      ∧ (State.reset.channel c).conversion = 0
      ∧ (State.reset.channel c).trim = 0 ∧ (State.reset.channel c).gain = 512
      ∧ (State.reset.channel c).storedTrim = 0 ∧ (State.reset.channel c).storedGain = 512)
  ∧ (∀ p, State.reset.pair p = { mode := .separate, rails := none })
  ∧ (∀ p, (State.reset.profile p).useCount = 0
      ∧ (State.reset.profile p).record =
          { surgeLimit := 0, soakLimit := 0, tripLevel := 0, openThreshold := 0, standbyLimit := 0, standbyTrip := 0
            onTime := 0, offTime := 0, cycleCount := 0, driftLimit := 0, surgeCode := 0, bleed := 0, standbyLead := 0
            tripDebounce := 0, action := .carryOn, stages := [] })
  ∧ State.reset.sdiv = 249 ∧ State.reset.programCount = 0 ∧ State.reset.programming = none
  ∧ State.reset.holdSetting = 15
  ∧ State.reset.partFaults = { f := 0b00100, uRack := 0b00100, uBench := 0b00100 }
  ∧ (∀ p, State.reset.mask p = { slotKinds := 0, partKinds := 0 })
  ∧ (∀ p, State.reset.port p = { awaited := 0, partialCommand := none, replies := [], prevStatus := none })
  ∧ State.reset.resetCause = .power ∧ State.reset.holderByte = 0x00 ∧ State.reset.benchAddress = 0x5C
  ∧ State.reset.heat = false ∧ State.reset.supplyLow = false ∧ State.reset.pending = []

/-- The invariants of Safety.lean hold right after the first power-on. -/
def Obligations.InvariantsStandAfterPowerOn : Prop :=
  State.reset.PendingIsConv ∧ State.reset.UseCountsMatch ∧ State.reset.HoldsStand ∧ State.reset.BenchHoldsStand
  ∧ State.reset.Shaped ∧ State.reset.RunsAreBound ∧ State.reset.StoreInRange ∧ State.reset.AssemblersStand
  ∧ State.reset.HoldStopsRuns ∧ State.reset.LevelsTaken ∧ State.reset.SenseInRange ∧ State.reset.CountersInRange
  ∧ State.reset.ReportsInRange ∧ State.reset.CyclesWithin ∧ State.reset.RailsOnlyInManual
  ∧ State.reset.UpperCheckersAtStart

/-! ## What every step keeps -/

/-- R95, R166: a slot holds a withheld summary exactly when its CONV flag is set. -/
def Obligations.WithheldExactlyWhileConvIsSet : Prop :=
  ∀ s t : State, s.PendingIsConv → step s = .next t → t.PendingIsConv

/-- R53: every profile's use count equals the number of contexts bound to it; with it the holds of R137 and R148, and, where
they stand, the starting values of R59 at the checkers of paired upper slots. -/
def Obligations.UseCountsAndHoldsAreKept : Prop :=
  ∀ s t : State, s.UseCountsMatch → s.HoldsStand → step s = .next t →
    t.UseCountsMatch ∧ t.HoldsStand ∧ (s.UpperCheckersAtStart → t.UpperCheckersAtStart)

/-- R137, R147 to R150, R155 and the timers of 1.2: while the bench holds a slot the rack's context is parked and the hold
timer runs; the phase timer runs in the timed states alone; drain-next and sub-phase stand where 1.1 gives them. -/
def Obligations.BenchHoldsAndContextShapesAreKept : Prop :=
  ∀ s t : State, s.BenchHoldsStand → s.HoldsStand → s.Shaped → step s = .next t →
    t.BenchHoldsStand ∧ t.HoldsStand ∧ t.Shaped

/-- R2, R42, R53 and 3.2: runs and manual drives are bound to non-empty profiles, and every stored record lies within the
ranges and relations of the table of 3.2 (R43 to R48), or reads 0 throughout. With it the assemblers' own invariant (R180). -/
def Obligations.BindingsAndStoreAreKept : Prop :=
  ∀ s t : State, s.RunsAreBound → s.StoreInRange → s.AssemblersStand → step s = .next t →
    t.RunsAreBound ∧ t.StoreInRange ∧ t.AssemblersStand

/-- R130: no active context is in RUN-ON, RUN-BLEED, RUN-REST or MANUAL while a shelf hold is in force; and the levels as
taken are the live levels while the part takes events (R128, R132). -/
def Obligations.ShelfHoldStopsRuns : Prop :=
  ∀ s t : State, s.HoldStopsRuns → s.LevelsTaken → step s = .next t → t.HoldStopsRuns ∧ t.LevelsTaken

/-- R28 to R34, R151 and 1.1: SDIV, trims, gains, present currents, the program count, the hold-time setting, D and k stay in
their ranges. -/
def Obligations.RangesAreKept : Prop :=
  ∀ s t : State, s.SenseInRange → s.CountersInRange → step s = .next t → t.SenseInRange ∧ t.CountersInRange

/-- R83, R88 to R92: whatever the rounding mode, every reported mean lies in 0..32728 or reads 65535, every charge in 0..65534
or reads 65535, every drift within ±32728, every baseline in 0..523,648. -/
def Obligations.ReportedValuesStayInRange : Prop :=
  ∀ s t : State, s.SenseInRange → s.ReportsInRange → step s = .next t → t.ReportsInRange

/-- R10: while a run's profile has a nonzero cycle count, the run's completed-cycle count does not exceed it. -/
def Obligations.RunsDoNotExceedTheirCycleCount : Prop :=
  ∀ s t : State, s.CyclesWithin → s.UseCountsMatch → s.HoldsStand → step s = .next t → t.CyclesWithin

/-- Chapter 8, R143: manual rail requests stand only in MANUAL of a DUAL pair. -/
def Obligations.RailRequestsStandOnlyInManual : Prop :=
  ∀ s t : State, s.RailsOnlyInManual → step s = .next t → t.RailsOnlyInManual

/-- R145, R165: a party's command, but for a TAKE, leaves a slot the other party holds exactly as it was, save that
party's own unseen marks at it. -/
def Obligations.NonHolderChangesOnlyItsOwnMarks : Prop :=
  ∀ (c : Instr) (n : Named) (i : Fin 8) (s t : State), namedOf c = some n → n.cmd ≠ .take →
    (s.slot i).holder = otherParty n.party → exec c s = .next t →
    t.slot i =
      { s.slot i with
        faults :=
          match n.party with
          | .rack => { (s.slot i).faults with uRack := (t.slot i).faults.uRack }
          | .bench => { (s.slot i).faults with uBench := (t.slot i).faults.uBench } }
      ∧ (t.slot i).faults.unseen n.party &&& (s.slot i).faults.unseen n.party = (t.slot i).faults.unseen n.party

/-- R53, R54: no step changes the record of a profile whose use count is not 0, but the power-on reset, which unbinds every
context. -/
def Obligations.BoundProfileKeepsItsRecord : Prop :=
  ∀ (c : Instr) (p : Fin 16) (s t : State), (s.profile p).useCount ≠ 0 → c ≠ .powerOn → exec c s = .next t →
    (t.profile p).record = (s.profile p).record

/-! ## The operations -/

/-- R29, whole: a code r is trimmed, clamped to 0..4095, scaled by the gain over 256 and rounded to the nearest whole mA, a half
going up; this at each arrival, with the channel's working trim and gain. -/
def Obligations.EachCodeIsCalibratedToTheNearestMilliamp : Prop :=
  (∀ (ch : Fin 8) (code : SenseCode) (s : State), s.held = false → s.isPaired ch = false →
    ∃ t, exec (.sampleArrival ch code) s = .next t
      ∧ (t.channel ch).present = calibrate (s.channel ch).trim (s.channel ch).gain code.toNat)
  ∧ (∀ (pr : Fin 4) (x y : SenseCode) (s : State), s.held = false → s.isPaired (lowerOf pr) = true →
    ∃ t, exec (.pairSampleEvent pr x y) s = .next t
      ∧ (t.channel (lowerOf pr)).present = calibrate (s.channel (lowerOf pr)).trim (s.channel (lowerOf pr)).gain x.toNat
      ∧ (t.channel (upperOf pr)).present =
          calibrate (s.channel (upperOf pr)).trim (s.channel (upperOf pr)).gain y.toNat)
  ∧ (∀ (trim : Int) (gain r c : Nat),
      (c : Int) = (if (r : Int) + trim < 0 then 0 else if (r : Int) + trim > 4095 then 4095 else (r : Int) + trim) →
      calibrate trim gain r = (c * gain + 128) / 256
        ∧ 256 * calibrate trim gain r ≤ c * gain + 128 ∧ c * gain + 128 < 256 * (calibrate trim gain r + 1)
        ∧ (c = 0 ∨ gain = 0 → calibrate trim gain r = 0)
        ∧ (gain ≤ 1023 → calibrate trim gain r ≤ 16364))
  ∧ calibrate 15 1023 4095 = 16364
  ∧ ∀ r, r ≤ 4095 → calibrate 0 512 r = 2 * r

/-- R87: the whole number each rounding mode gives for a ratio. -/
def Obligations.RoundingModesRoundAsTheirNamesSay : Prop :=
  ∀ (num : Int) (den : Nat), den ≠ 0 →
    (roundRatio .down num den * den ≤ num ∧ num < (roundRatio .down num den + 1) * den)
    ∧ ((roundRatio .up num den - 1) * den < num ∧ num ≤ roundRatio .up num den * den)
    ∧ (0 ≤ num → roundRatio .zero num den = roundRatio .down num den)
    ∧ (num ≤ 0 → roundRatio .zero num den = roundRatio .up num den)
    ∧ 2 * (num - roundRatio .nearestEven num den * den).natAbs ≤ den
    ∧ (2 * (num - roundRatio .nearestEven num den * den).natAbs = den → roundRatio .nearestEven num den % 2 = 0)
    ∧ ∀ m q, num = q * den → roundRatio m num den = q

/-- R104 to R108: a push puts its record at depth 0 and moves the others one deeper; on a VALID entry at depth 7 it overflows,
losing that entry under KEEP-NEWEST and the new record under KEEP-OLDEST, and raises STACK. Nothing else of the slot
changes. -/
def Obligations.PushLandsAtTheTopOrOverflows : Prop :=
  ∀ (sl : Slot) (r : Record),
    let overflows := (sl.entryAt 7).tag = .valid
    let lost := overflows ∧ sl.active.conv.policy = .keepOldest
    (lost → sl.push r = { sl with faults := (sl.push r).faults })
    ∧ (¬ lost →
        (sl.push r).entryAt 0 = { tag := .valid, record := { r with afterLoss := decide overflows } }
        ∧ (∀ k : Fin 8, k ≠ 7 → (sl.push r).entryAt (k + 1) = sl.entryAt k)
        ∧ (sl.push r).top = sl.top - 1
        ∧ (sl.push r).validCount = (if overflows then sl.validCount else sl.validCount + 1)
        ∧ sl.push r = { sl with stack := (sl.push r).stack, top := (sl.push r).top, faults := (sl.push r).faults })
    ∧ (sl.push r).faults =
        if overflows then
          { f := sl.faults.f ||| 0b0010000, uRack := sl.faults.uRack ||| 0b0010000
            uBench := sl.faults.uBench ||| 0b0010000 }
        else sl.faults

/-- R63, whole: a WAIT stage counts samples, passes at j = W, never fails, and uses neither its levels nor its debounce. -/
def Obligations.WaitStagePassesAtItsWindow : Prop :=
  ∀ (st : Stage) (limit current : Nat) (c : Checker), st.kind = .wait →
    (st.takeSample limit current c).1 = { c with j := c.j + 1 }
    ∧ ((st.takeSample limit current c).2 = .pass ↔ c.j + 1 = st.window)
    ∧ (∀ cause, (st.takeSample limit current c).2 ≠ .fail cause)
    ∧ (∀ limit' current' a b dd, { st with a := a, b := b, dd := dd }.takeSample limit' current' c =
        st.takeSample limit current c)
    ∧ (st.window = 1 → c.j = 0 → (st.takeSample limit current c).2 = .pass)

/-- R64 and R67, over any samples fed to a stage that has just opened: a RISE stage passes on Dd samples in a row at or above A
within its window W, else fails WINDOW at W; a BAND stage fails EXCURSION on Dd in a row outside [A, B] within W, else
passes at W. -/
def Obligations.RiseAndBandStagesJudgeRunsOfSamples : Prop :=
  ∀ (st : Stage) (limit : Nat) (c : Checker) (samples : List Nat), c.j = 0 → c.run = 0 → 1 ≤ st.dd → 1 ≤ st.window →
    let result := (st.over limit c samples).2
    let rises := hasRun (fun x => decide (st.a ≤ x)) samples st.window st.dd
    let leaves := hasRun (fun x => decide (x < st.a) || decide (st.b < x)) samples st.window st.dd
    (st.kind = .rise →
      (result = .pass ↔ rises) ∧ (result = .fail .window ↔ (¬ rises ∧ st.window ≤ samples.length))
        ∧ (result = .open ↔ (¬ rises ∧ samples.length < st.window)))
    ∧ (st.kind = .band →
      (result = .fail .excursion ↔ leaves) ∧ (result = .pass ↔ (¬ leaves ∧ st.window ≤ samples.length))
        ∧ (result = .open ↔ (¬ leaves ∧ samples.length < st.window)))

/-- R65 and R66: a DIP stage's work on one sample: LIMIT first, on every sample; then the arming; then, from the next sample,
the maximum and the descent; WINDOW at j = W where it has not passed. -/
def Obligations.DipStageFollowsThePeakAndCountsTheDescent : Prop :=
  ∀ (st : Stage) (limit current : Nat) (c : Checker), st.kind = .dip →
    let out := st.takeSample limit current c
    let depth := if st.b = 0 then 1 else st.b
    let undecided := if c.j + 1 = st.window then StageResult.fail .window else StageResult.open
    (limit ≤ current → out = ({ c with j := c.j + 1 }, .fail .limit))
    ∧ (current < limit → c.armed = false → current < st.a → out = ({ c with j := c.j + 1 }, undecided))
    ∧ (current < limit → c.armed = false → st.a ≤ current →
        out = ({ c with j := c.j + 1, armed := true, max := current, run := 0 }, undecided))
    ∧ (current < limit → c.armed = true → c.max < current →
        out.1 = { c with j := c.j + 1, max := current, run := 0 } ∧ (1 ≤ st.dd → out.2 = undecided))
    ∧ (current < limit → c.armed = true → current ≤ c.max → current + depth ≤ c.max →
        out = ({ c with j := c.j + 1, run := c.run + 1 }, if c.run + 1 = st.dd then .pass else undecided))
    ∧ (current < limit → c.armed = true → current ≤ c.max → c.max < current + depth →
        out.1 = { c with j := c.j + 1, run := 0 } ∧ (1 ≤ st.dd → out.2 = undecided))

/-- R57, R58, R61, R62 and R68: the walk through the stage list. A sample is the open stage's alone; a pass opens the next stage at
its starting values or ends the walk DONE; a failure ends it FAILED at that stage; DONE and FAILED take no more samples; a
list of s stages needs at least s samples to reach DONE. -/
def Obligations.CheckerWalksItsStagesInOrder : Prop :=
  (∀ (stages : List Stage) (limit current : Nat) (c : Checker) (st : Stage),
    (c.condition = .idle ∨ c.condition = .walking) → stages[c.stage]? = some st →
    let out := st.takeSample limit current { c with condition := .walking }
    (out.2 = .open → c.step stages limit current = (out.1, none))
    ∧ (out.2 = .pass → c.stage + 1 = stages.length →
        c.step stages limit current = ({ out.1 with condition := .done }, none))
    ∧ (out.2 = .pass → c.stage + 1 < stages.length →
        c.step stages limit current =
          ({ condition := .walking, stage := c.stage + 1, j := 0, run := 0, armed := false, max := 0 }, none))
    ∧ ∀ cause, out.2 = .fail cause →
        c.step stages limit current = ({ out.1 with condition := .failed }, some cause))
  ∧ (∀ (stages : List Stage) (limit current : Nat) (c : Checker), c.condition = .done ∨ c.condition = .failed →
      c.step stages limit current = (c, none))
  ∧ ∀ (stages : List Stage) (samples : List (Nat × Nat)),
      (Checker.over stages { condition := .idle, stage := 0, j := 0, run := 0, armed := false, max := 0 }
        samples).condition = .done →
      stages.length ≤ samples.length

/-- R83 to R95 and R97: the summary an on-phase leaves, and where it goes; and the SUMMARY record of a summary (R94, R113), which
carries its fields with the after-loss mark clear. -/
def Obligations.SummaryIsFormedShiftedAndFiled : Prop :=
  (∀ m : Summary, m.toRecord =
    { holder := m.holder, afterLoss := false, profile := m.profile, cycle := m.cycle, k := m.k, current := m.current
      body := .summary m.verdict m.drifted m.last m.invMean m.invCharge m.inexact m.n m.peak m.mean m.charge m.drift })
  ∧ ∀ (sl : Slot) (env : Env) (verdict : Verdict) (last : Bool),
    let c := sl.active
    let out := sl.formSummary env verdict last
    ∃ m, out.active.latest = some m ∧ out.active.previous = c.latest
      -- the fields
      ∧ m.verdict = verdict ∧ m.last = last ∧ m.holder = sl.holder ∧ m.profile = c.bound.getD 0
      ∧ m.cycle = min (c.d + 1) 65535 ∧ m.k = c.k ∧ m.current = env.current ∧ m.n = c.n ∧ m.peak = c.peak
      ∧ (m.invMean = true ↔ c.n = 0)
      ∧ m.mean = (if c.n = 0 then 65535 else (roundRatio c.conv.rounding c.sum c.n).toNat)
      ∧ (m.invCharge = true ↔ 65534 < (roundRatio c.conv.rounding (c.sum * 4 * (env.sdiv + 1)) 100000000).toNat)
      ∧ m.charge = (if m.invCharge then 65535
          else (roundRatio c.conv.rounding (c.sum * 4 * (env.sdiv + 1)) 100000000).toNat)
      ∧ m.drift = (match c.baseline with
          | none => none
          | some b =>
            if c.n = 0 then none
            else some (roundRatio c.conv.rounding (16 * (c.sum : Int) - (b : Int) * (c.n : Int)) (16 * c.n)))
      ∧ (m.drifted = true ↔ ∃ d, m.drift = some d ∧ env.record.driftLimit ≠ 0 ∧ env.record.driftLimit < d.natAbs)
      ∧ (m.inexact = true ↔
          (c.n ≠ 0 ∧ ¬ c.n ∣ c.sum)
          ∨ (m.invCharge = false ∧ ¬ 100000000 ∣ c.sum * 4 * (env.sdiv + 1))
          ∨ ∃ b, c.baseline = some b ∧ c.n ≠ 0 ∧ ¬ ((16 * c.n : Nat) : Int) ∣ (16 * (c.sum : Int) - (b : Int) * (c.n : Int)))
      -- the context
      ∧ out.active =
          { c with
            latest := some m, previous := c.latest
            baseline :=
              if verdict = .pass ∧ 0 < c.n ∧ c.baseline = none then
                some (roundRatio .nearestEven (16 * (c.sum : Int)) c.n).toNat
              else c.baseline }
      -- where it goes
      ∧ (let before := { sl with active := out.active }
         let drifted := if m.drifted then before.raise .drift else before
         let unmasked := (m.invMean && c.conv.meanUnmasked) || (m.invCharge && c.conv.chargeUnmasked)
         let notable := decide (verdict ≠ .pass) || m.drifted || last || m.invMean || m.invCharge
         (notable = false → out = drifted)
         ∧ (notable = true → unmasked = false → out = drifted.push m.toRecord)
         ∧ (notable = true → unmasked = true → sl.withheld = none →
              out = { drifted with withheld := some m }.raise .conv)
         ∧ (notable = true → unmasked = true → sl.withheld ≠ none → out = (drifted.push m.toRecord).raise .conv))

/-- 12.4 and 12.7 (R182, R187): the codes of the commands with the operand words each awaits (R49), and of the statuses; the
status word's fields in their places, the count exact up to 47; and the words of a record, each field in its place and width, in
the codes of 12.7. -/
def Obligations.StatusAndRecordWordsCarryTheirFields : Prop :=
  (∀ c : Cmd, c.code =
    match c with
    | .bind => 0x10 | .unbind => 0x11 | .start => 0x12 | .stop => 0x13 | .ack => 0x14 | .drive => 0x15
    | .setConv => 0x16 | .slotInit => 0x17 | .status => 0x18 | .summaryRead => 0x19 | .take => 0x20 | .release => 0x21
    | .holdTime => 0x22 | .evPeek => 0x30 | .evRetire => 0x31 | .evFree => 0x32 | .evClear => 0x33
    | .faultRead => 0x40 | .alertMask => 0x41 | .profileWrite => 0x50 | .profileRead => 0x51 | .pair => 0x60
    | .partStatus => 0x70 | .setSampling => 0x71 | .trimSet => 0x72 | .trimRead => 0x73 | .trimProgram => 0x74
    | .deviceReset => 0x75)
  ∧ (∀ (c : Cmd) (arg : Nibble), c.operandWords arg =
      if c = .drive ∨ c = .setConv ∨ c = .holdTime ∨ c = .faultRead ∨ c = .alertMask ∨ c = .setSampling ∨ c = .trimSet then 1
      else if c = .profileWrite ∧ 1 ≤ arg.toNat ∧ arg.toNat ≤ 12 then 6 + 2 * arg.toNat
      else 0)
  ∧ (∀ st : Status, st.code =
    match st with
    | .ok => 0x00 | .clamped => 0x01 | .empty => 0x02 | .busy => 0x10 | .notHolder => 0x11 | .notPermitted => 0x12
    | .paired => 0x13 | .unbound => 0x14 | .inUse => 0x15 | .pending => 0x16 | .badArg => 0x17 | .noRun => 0x18
    | .flagSet => 0x19 | .shelfHold => 0x1A | .exhausted => 0x1B | .unknown => 0x1F)
  ∧ (∀ (st : Status) (code : Byte) (target : Nibble) (count : Nat), count ≤ 47 →
      let w := statusWord st code target count
      w.extractLsb' 0 8 = st.code ∧ w.extractLsb' 8 8 = code ∧ w.extractLsb' 16 4 = target ∧ bitsOf w 20 6 = count
        ∧ bitsOf w 26 6 = 0)
  ∧ ∀ r : Record, ∃ w1 w2 w3 own, r.words = w1 :: w2 :: w3 :: own
    ∧ bitsOf w1 0 3 =
        (match r.body with
        | .trip .. => 1
        | .sigfail .. => 2
        | .opened .. => 3
        | .summary .. => 4)
    ∧ (w1.getLsbD 3 = true ↔ r.holder = .bench) ∧ w1.getLsbD 4 = r.afterLoss
    ∧ bitsOf w1 8 4 = r.profile.val ∧ bitsOf w1 16 16 = r.cycle % 65536
    ∧ w2.toNat = r.k % 4294967296 ∧ bitsOf w3 0 16 = r.current % 65536
    ∧ (∀ ch current level, r.body = .trip ch current level →
        ∃ w, own = [w] ∧ bitsOf w 0 16 = level % 65536 ∧ bitsOf w 16 14 = current % 16384 
          ∧ bitsOf w 30 2 = (match ch with
            | .self => 0
            | .lower => 1
            | .upper => 2))
    ∧ (∀ stage kind cause m, r.body = .sigfail stage kind cause m →
        ∃ w w', own = [w, w'] ∧ bitsOf w 0 4 = stage % 16 
          ∧ bitsOf w 4 2 = (match kind with
            | .wait => 0
            | .rise => 1
            | .dip => 2
            | .band => 3)
          ∧ bitsOf w 8 2 = (match cause with
            | .window => 0
            | .limit => 1
            | .excursion => 2
            | .phaseEnd => 3)
          ∧ w.getLsbD 15 = m.isSome ∧ bitsOf w' 0 16 = (m.getD 0) % 65536)
    ∧ (∀ threshold, r.body = .opened threshold → ∃ w, own = [w] ∧ bitsOf w 0 16 = threshold % 65536)
    ∧ ∀ verdict drifted last invMean invCharge inexact n peak mean charge drift,
        r.body = .summary verdict drifted last invMean invCharge inexact n peak mean charge drift →
        ∃ w4 w5 w6 w7, own = [w4, w5, w6, w7] ∧ bitsOf w4 0 2 =
            (match verdict with
            | .pass => 0
            | .sigfail => 1
            | .trip => 2
            | .abort => 3)
          ∧ w4.getLsbD 4 = drifted
          ∧ w4.getLsbD 5 = last ∧ w4.getLsbD 6 = invMean ∧ w4.getLsbD 7 = invCharge ∧ w4.getLsbD 8 = inexact
          ∧ w4.getLsbD 15 = drift.isSome
          ∧ (∀ d, drift = some d → -32768 ≤ d → d ≤ 32767 → signedOf w4 16 = d) ∧ (drift = none → signedOf w4 16 = 0)
          ∧ w5.toNat = n % 4294967296 ∧ bitsOf w6 0 16 = peak % 65536 ∧ bitsOf w6 16 16 = mean % 65536
          ∧ bitsOf w7 0 16 = charge % 65536

/-- 12.5 (R55, R187): the words that PROFILE-READ gives of a record, read as a PROFILE-WRITE reads its operands, are that record:
no field is dropped or moved. -/
def Obligations.ProfileWordsRoundTrip : Prop :=
  ∀ r : ProfileRecord,
    r.surgeLimit < 65536 → r.soakLimit < 65536 → r.tripLevel < 65536 → r.openThreshold < 65536 →
    r.standbyLimit < 65536 → r.standbyTrip < 65536 → r.onTime < 65536 → r.offTime < 65536 → r.cycleCount < 65536 →
    r.driftLimit < 65536 → r.surgeCode < 256 → r.bleed < 256 → r.standbyLead < 256 → r.tripDebounce < 64 →
    (∀ st ∈ r.stages, st.dd < 64 ∧ st.window < 65536 ∧ st.a < 65536 ∧ st.b < 65536) →
    r.words.length = 6 + 2 * r.stages.length ∧ writeCarried r.words = (r, some r.action)

/-- R2, R139, R140, R183: what each channel's outputs do, by its governing slot's active context: the feed only in RUN-ON and
MANUAL with no shelf hold, at the whole or the halved limit by the mode; the bleed load in RUN-BLEED and DRAIN; else
neither. -/
def Obligations.ChannelOutputsFollowTheGoverningContext : Prop :=
  ∀ (s : State) (ch : Fin 8),
    let gov := s.governor ch
    let c := (s.slot gov).active
    let r := s.activeRecord gov
    let fed := c.state = .runOn ∨ c.state = .manual
    let limit := if c.subPhase = some .surge then r.surgeLimit else r.soakLimit
    let standbyFed := c.state = .runOn ∨ (s.pair (pairOf ch)).rails ≠ none
    let mainFed :=
      (c.state = .runOn ∧ c.subPhase ≠ some .lead) ∨ (c.state = .manual ∧ (s.pair (pairOf ch)).rails = some .both)
    gov = (if s.mode ch = .separate then ch else lowerOf (pairOf ch))
    ∧ (s.held = true → s.channelDrive ch = .float)
    ∧ (s.held = false → (c.state = .runBleed ∨ c.state = .drain) → s.channelDrive ch = .bleed)
    ∧ ((c.state = .idle ∨ c.state = .runRest ∨ c.state = .paused ∨ c.state = .faulted) → s.channelDrive ch = .float)
    ∧ (fed → s.shelfHold = true → s.channelDrive ch = .float)
    ∧ (s.held = false → fed → s.shelfHold = false → s.mode ch = .separate → s.channelDrive ch = .feed limit)
    ∧ (s.held = false → fed → s.shelfHold = false → s.mode ch = .gang → s.channelDrive ch = .feed (limit / 2))
    ∧ (s.held = false → fed → s.shelfHold = false → s.mode ch = .dual → isUpper ch = false →
        s.channelDrive ch = if standbyFed then .feed r.standbyLimit else .float)
    ∧ (s.held = false → fed → s.shelfHold = false → s.mode ch = .dual → isUpper ch = true →
        s.channelDrive ch = if mainFed then .feed limit else .float)

/-- R171, R175, R183: a port's alert line is asserted exactly when the part is not held and that port has an unseen mark, at any slot or
of the part, for a kind its mask leaves unmasked; the rack's alert summary has slot n's such marks at bit n. -/
def Obligations.AlertLinesFollowUnmaskedMarks : Prop :=
  ∀ s : State,
    (∀ p : Party, s.alertLine p = true ↔
      (s.held = false
        ∧ ((∃ (i : Fin 8) (k : Fin 7),
              ((s.slot i).faults.unseen p).getLsbD k = true ∧ (s.mask p).slotKinds.getLsbD k = false)
            ∨ ∃ k : Fin 5, (s.partFaults.unseen p).getLsbD k = true ∧ (s.mask p).partKinds.getLsbD k = false)))
    ∧ ∀ i : Fin 8, s.alertSummary.getLsbD i = true ↔
        ∃ k : Fin 7, (s.slot i).faults.uRack.getLsbD k = true ∧ s.rackMask.slotKinds.getLsbD k = false

/-! ## The slot commands -/

/-- R4, R53, R150: a taken BIND binds the context and moves the use counts; nothing else of the context changes. -/
def Obligations.BindBindsTheNamedProfile : Prop :=
  ∀ (p : Party) (i : Fin 8) (arg : Nibble) (s : State), s.Reaches p i → (s.slot i).active.state = .idle →
    (s.profile (profileOf arg)).record.stages ≠ [] →
    ∃ t, exec (.bind p (slotField i) arg) s = .next t
      ∧ s.Answered p .bind (slotField i) .ok [] t
      ∧ t.slot i =
          { s.slot i with
            active := { (s.slot i).active with bound := some (profileOf arg) }, holdTimer := s.holdAfter p i }
      ∧ (∀ j, j ≠ i → t.slot j = s.slot j)
      ∧ (∀ q, t.profile q =
          { s.profile q with
            useCount :=
              if (s.slot i).active.bound = some (profileOf arg) then (s.profile q).useCount
              else if q = profileOf arg then (s.profile q).useCount + 1
              else if (s.slot i).active.bound = some q then (s.profile q).useCount - 1
              else (s.profile q).useCount })
      ∧ t = { s with slots := t.slots, profiles := t.profiles, rack := t.rack, bench := t.bench, bus := t.bus }

/-- R5, R21, R53: in IDLE and in FAULTED, UNBIND gives up the binding alone; SLOT-INIT gives it up with the whole active context,
empties the stack, clears the seven faults and drops the withheld summary, and leaves the parked context. That it leaves the
open count is the model's (log entry 20). -/
def Obligations.UnbindAndSlotInitGiveUpTheBinding : Prop :=
  ∀ (p : Party) (i : Fin 8) (arg : Nibble) (s : State), s.Reaches p i →
    ((s.slot i).active.state = .idle ∨ (s.slot i).active.state = .faulted) →
    (∃ t, exec (.unbind p (slotField i) arg) s = .next t
      ∧ s.Answered p .unbind (slotField i) .ok [] t
      ∧ t.slot i =
          { s.slot i with active := { (s.slot i).active with bound := none }, holdTimer := s.holdAfter p i }
      ∧ (∀ j, j ≠ i → t.slot j = s.slot j)
      ∧ s.ReleasesBinding i t
      ∧ t = { s with slots := t.slots, profiles := t.profiles, rack := t.rack, bench := t.bench, bus := t.bus })
    ∧ ∃ t, exec (.slotInit p (slotField i) arg) s = .next t
      ∧ s.Answered p .slotInit (slotField i) .ok [] t
      ∧ t.slot i =
          { s.slot i with
            active := Context.reset, holdTimer := s.holdAfter p i, withheld := none
            faults := { f := 0, uRack := 0, uBench := 0 }, stack := (t.slot i).stack, top := 0 }
      ∧ (∀ n : Fin 8, ((t.slot i).stack[n]).tag = .empty)
      ∧ (∀ j, j ≠ i → t.slot j = s.slot j)
      ∧ s.ReleasesBinding i t
      ∧ t = { s with slots := t.slots, profiles := t.profiles, rack := t.rack, bench := t.bench, bus := t.bus }

/-- R6, R7, R121, R126: a taken START begins the first on-phase of a run with D 0 and no baseline, keeping the binding, the
summaries and the conversion control. -/
def Obligations.StartBeginsARun : Prop :=
  ∀ (p : Party) (i : Fin 8) (arg : Nibble) (s : State), s.Reaches p i → (s.slot i).withheld = none →
    (s.slot i).active.state = .idle → (s.slot i).active.bound ≠ none → s.heat = false → s.supplyLow = false →
    ∃ t, exec (.start p (slotField i) arg) s = .next t
      ∧ s.Answered p .start (slotField i) .ok [] t
      ∧ t.slot i =
          { s.slot i with
            active :=
              { (s.slot i).active.onPhaseFrom (s.activeRecord i) (s.mode i) with d := 0, baseline := none }
            faults := { (s.slot i).faults with f := (s.slot i).faults.f &&& 0b1111101 }
            openCount := 0, holdTimer := s.holdAfter p i }
      ∧ (∀ c, (t.channel c).tripCount = if s.governor c = i then 0 else (s.channel c).tripCount)
      ∧ s.OnlySlotAndTrips i t

/-- R13, R14, R75: a taken STOP ends the run or the manual drive by the slot's state: an on-phase with its ABORT summary and without
D rising. -/
def Obligations.StopEndsTheRunByState : Prop :=
  ∀ (p : Party) (i : Fin 8) (arg : Nibble) (s : State), s.Reaches p i →
    let sl := { s.slot i with holdTimer := s.holdAfter p i }
    let st := (s.slot i).active.state
    st ≠ .idle → st ≠ .faulted → st ≠ .drain →
    ∃ t, exec (.stop p (slotField i) arg) s = .next t
      ∧ s.Answered p .stop (slotField i) .ok [] t
      ∧ (st = .runOn →
          t.slot i =
            (sl.formSummary (s.env i) .abort false).inState .drain (freshTimer (drainOf (s.activeRecord i))) (some .idle))
      ∧ (st = .runBleed → t.slot i = sl.inState .drain (s.slot i).active.timer (some .idle))
      ∧ (st = .runRest ∨ st = .paused → t.slot i = sl.inState .idle none none)
      ∧ (st = .manual → t.slot i = sl.inState .drain (freshTimer (drainOf (s.activeRecord i))) (some .idle))
      ∧ (∀ q, (t.pair q).rails = if st = .manual ∧ q = pairOf i then none else (s.pair q).rails)
      ∧ (∀ c, (t.channel c).tripCount = (s.channel c).tripCount)
      ∧ s.OnlySlotTripsAndRails i t

/-- R16, R100: ACK takes a FAULTED slot whose TRIP and SIGNATURE flags are clear to IDLE and changes nothing else of it; SET-CONV sets
the conversion control of the active context in every state. -/
def Obligations.AckAndSetConvChangeOneThing : Prop :=
  (∀ (p : Party) (i : Fin 8) (arg : Nibble) (s : State), s.Reaches p i → (s.slot i).active.state = .faulted →
    (s.slot i).faults.f.getLsbD 0 = false → (s.slot i).faults.f.getLsbD 2 = false →
    ∃ t, exec (.ack p (slotField i) arg) s = .next t
      ∧ s.Answered p .ack (slotField i) .ok [] t
      ∧ t.slot i = { s.slot i with holdTimer := s.holdAfter p i }.inState .idle none none
      ∧ s.OnlySlot i t)
  ∧ ∀ (p : Party) (i : Fin 8) (arg : Nibble) (op : Word) (s : State), s.Reaches p i →
    ∃ t, exec (.setConv p (slotField i) arg op) s = .next t
      ∧ s.Answered p .setConv (slotField i) .ok [] t
      ∧ t.slot i =
          { s.slot i with
            holdTimer := s.holdAfter p i
            active := { (s.slot i).active with
              conv :=
                { rounding :=
                    if op.extractLsb' 0 2 = 0#2 then .nearestEven else if op.extractLsb' 0 2 = 1#2 then .down
                    else if op.extractLsb' 0 2 = 2#2 then .up else .zero
                  meanUnmasked := op.getLsbD 4, chargeUnmasked := op.getLsbD 5
                  policy := if op.getLsbD 8 then .keepOldest else .keepNewest } } }
      ∧ s.OnlySlot i t

/-- R17, R18, R143: what a DRIVE's operand asks, by the state and the pair's mode: ON, or a request with x = 1, enters MANUAL or
stays in it; BLEED, or (0,1), drains to IDLE; FLOAT, or (0,0), goes to IDLE. In DUAL the rail requests are kept. -/
def Obligations.DriveFeedsBleedsOrFloats : Prop :=
  ∀ (p : Party) (i : Fin 8) (arg : Nibble) (op : Word) (s : State), s.Reaches p i →
    let sl := { s.slot i with holdTimer := s.holdAfter p i }
    let st := (s.slot i).active.state
    let dual := s.mode i = .dual
    let feeds := (op = 1 ∧ ¬ dual) ∨ ((op = 1 ∨ op = 3) ∧ dual)
    let rails : Option Rails := if dual then (if op = 1 then some .standbyOnly else some .both) else none
    (feeds → st = .idle → (s.slot i).active.bound ≠ none → s.heat = false → s.supplyLow = false →
      ∃ t, exec (.drive p (slotField i) arg op) s = .next t
        ∧ s.Answered p .drive (slotField i) .ok [] t
        ∧ t.slot i =
            { sl with
              active := { (s.slot i).active with
                state := .manual, drainNext := none, timer := none, subPhase := none, k := 0 }
              faults := { (s.slot i).faults with f := (s.slot i).faults.f &&& 0b1111101 } }
        ∧ (t.pair (pairOf i)).rails = rails
        ∧ (∀ c, (t.channel c).tripCount = if s.governor c = i then 0 else (s.channel c).tripCount)
        ∧ s.OnlySlotTripsAndRails i t)
    ∧ (feeds → st = .manual →
      ∃ t, exec (.drive p (slotField i) arg op) s = .next t
        ∧ s.Answered p .drive (slotField i) .ok [] t
        ∧ t.slot i = sl ∧ (t.pair (pairOf i)).rails = rails
        ∧ (∀ c, (t.channel c).tripCount = (s.channel c).tripCount)
        ∧ s.OnlySlotTripsAndRails i t)
    ∧ (op = 2 → st = .idle ∨ st = .manual →
      ∃ t, exec (.drive p (slotField i) arg op) s = .next t
        ∧ s.Answered p .drive (slotField i) .ok [] t
        ∧ t.slot i = sl.inState .drain (freshTimer (drainOf (s.activeRecord i))) (some .idle)
        ∧ (t.pair (pairOf i)).rails = (if st = .manual then none else (s.pair (pairOf i)).rails)
        ∧ (∀ c, (t.channel c).tripCount = (s.channel c).tripCount)
        ∧ s.OnlySlotTripsAndRails i t)
    ∧ (op = 0 → st = .idle ∨ st = .manual →
      ∃ t, exec (.drive p (slotField i) arg op) s = .next t
        ∧ s.Answered p .drive (slotField i) .ok [] t
        ∧ t.slot i = (if st = .manual then sl.inState .idle none none else sl)
        ∧ (t.pair (pairOf i)).rails = (if st = .manual then none else (s.pair (pairOf i)).rails)
        ∧ (∀ c, (t.channel c).tripCount = (s.channel c).tripCount)
        ∧ s.OnlySlotTripsAndRails i t)

/-- R17, R143, R181: the refusals of DRIVE: BAD-ARG for a target that names no slot and for an operand its mode does not code;
PAIRED at an upper slot whatever the operand; NOT-HOLDER; BUSY outside IDLE and MANUAL; UNBOUND, then SHELF-HOLD, for a feed
from IDLE. A refusal for a state condition restarts the hold timer (R150) and changes nothing else. -/
def Obligations.DriveIsRefusedInOrder : Prop :=
  ∀ (p : Party) (target arg : Nibble) (op : Word) (s : State), s.held = false →
    let n : Named := ⟨p, .drive, target, arg⟩
    (8 ≤ target.toNat → ∃ t, exec (.drive p target arg op) s = .next t ∧ s.RefusedPlainly n .badArg t)
    ∧ ∀ i : Fin 8, target = slotField i →
      let coded := op.toNat ≤ 2 ∨ (op = 3 ∧ s.mode i = .dual)
      let st := (s.slot i).active.state
      let feeds := op = 1 ∨ (op = 3 ∧ s.mode i = .dual)
      let ByState (status : Status) : Prop :=
        ∃ t, exec (.drive p target arg op) s = .next t ∧ s.Answered p .drive target status [] t
          ∧ t.slot i = { s.slot i with holdTimer := s.holdAfter p i } ∧ s.OnlySlot i t
      (s.upperPaired i = true →
        ∃ t, exec (.drive p target arg op) s = .next t ∧ s.RefusedPlainly n .paired t)
      ∧ (s.upperPaired i = false → ¬ coded →
        ∃ t, exec (.drive p target arg op) s = .next t ∧ s.RefusedPlainly n .badArg t)
      ∧ (s.upperPaired i = false → coded → (s.slot i).holder ≠ p →
        ∃ t, exec (.drive p target arg op) s = .next t ∧ s.RefusedPlainly n .notHolder t)
      ∧ (s.Reaches p i → coded → st ≠ .idle → st ≠ .manual → ByState .busy)
      ∧ (s.Reaches p i → feeds → st = .idle → (s.slot i).active.bound = none → ByState .unbound)
      ∧ (s.Reaches p i → feeds → st = .idle → (s.slot i).active.bound ≠ none → s.shelfHold = true →
          ByState .shelfHold)

/-- R22, 12.6: STATUS reports the slot in five words, to either party and in every state; a bench STATUS restarts the hold timer of
the slot it names, or of its pair, where the bench holds it, and reports it as restarted (log entry 11). The time left in
the phase is reported in 0.1 s and that of the hold in minutes, each rounded up. -/
def Obligations.StatusReportsTheSlot : Prop :=
  ∀ (p : Party) (i : Fin 8) (arg : Nibble) (s : State), s.held = false →
    let sl := s.slot i
    let c := sl.active
    let stateCode (st : SlotState) : Nat :=
      match st with
      | .idle => 0
      | .manual => 1
      | .runOn => 2
      | .runBleed => 3
      | .runRest => 4
      | .paused => 5
      | .drain => 6
      | .faulted => 7
    let hold := s.readHold p i (s.governor i)
    ∃ t w1 w2 w3 w4 w5, exec (.status p (slotField i) arg) s = .next t
      ∧ s.Answered p .status (slotField i) .ok [w1, w2, w3, w4, w5] t ∧ s.OnlyReadHold p i t
      ∧ (w1.getLsbD 0 = true ↔ sl.holder = .bench) ∧ bitsOf w1 4 4 = stateCode c.state
      ∧ bitsOf w1 8 2 = (match c.drainNext with
          | none => 0
          | some .idle => 1
          | some .faulted => 2
          | some .restore => 3)
      ∧ bitsOf w1 10 2 = (match c.subPhase with
          | none => 0
          | some .lead => 1
          | some .surge => 2
          | some .soak => 3)
      ∧ bitsOf w1 16 8 = (match c.bound with
          | none => 0xFF
          | some q => q.val)
      ∧ bitsOf w1 24 4 = c.checker.stage % 16 
      ∧ bitsOf w1 28 2 = (match c.checker.condition with
          | .idle => 0
          | .walking => 1
          | .done => 2
          | .failed => 3)
      ∧ w1.getLsbD 30 = sl.withheld.isSome ∧ w1.getLsbD 31 = sl.parked.isSome
      ∧ bitsOf w2 0 16 = c.d % 65536
      ∧ (c.timer = none → bitsOf w2 16 16 = 0)
      ∧ (∀ x, c.timer = some x → x.duration < 65536 →
          (bitsOf w2 16 16) * 100000 + x.elapsed < x.duration * 100000 + 100000
            ∨ (bitsOf w2 16 16 = 0 ∧ x.duration * 100000 ≤ x.elapsed))
      ∧ (∀ x, c.timer = some x → x.duration < 65536 → x.duration * 100000 ≤ (bitsOf w2 16 16) * 100000 + x.elapsed)
      ∧ w3.toNat = c.k % 4294967296
      ∧ bitsOf w4 0 16 = (s.channel i).present % 65536
      ∧ bitsOf w4 16 16 =
          (if s.lowerPaired i then (s.channel (upperOf (pairOf i))).present % 65536 else 0)
      ∧ bitsOf w5 0 4 = sl.validCount ∧ bitsOf w5 4 3 = sl.top.val
      ∧ (∀ pc, sl.parked = some pc → bitsOf w5 8 4 = stateCode pc.state)
      ∧ (hold = none → bitsOf w5 16 8 = 0)
      ∧ ∀ us, hold = some us → us ≤ 255 * 60000000 →
          us ≤ (bitsOf w5 16 8) * 60000000 ∧ (bitsOf w5 16 8) * 60000000 < us + 60000000

/-- R101, R115: SUMMARY-READ reports Latest, Previous or the baseline of the active context; EV-PEEK reports the entry at a depth; each
is EMPTY where there is none. Either party may read, and but for the hold timer nothing changes. -/
def Obligations.SummaryReadAndEvPeekReport : Prop :=
  ∀ (p : Party) (i : Fin 8) (s : State), s.held = false →
    let c := (s.slot i).active
    let Gives (row : Instr) (cmd : Cmd) (st : Status) (ws : List Word) : Prop :=
      ∃ t, exec row s = .next t ∧ s.Answered p cmd (slotField i) st ws t ∧ s.OnlyReadHold p i t
    (∀ m, c.latest = some m → Gives (.summaryRead p (slotField i) 0) .summaryRead .ok m.toRecord.words)
    ∧ (c.latest = none → Gives (.summaryRead p (slotField i) 0) .summaryRead .empty [])
    ∧ (∀ m, c.previous = some m → Gives (.summaryRead p (slotField i) 1) .summaryRead .ok m.toRecord.words)
    ∧ (c.previous = none → Gives (.summaryRead p (slotField i) 1) .summaryRead .empty [])
    ∧ (∀ b, c.baseline = some b → b < 1048576 →
        Gives (.summaryRead p (slotField i) 2) .summaryRead .ok [BitVec.ofNat 32 b])
    ∧ (c.baseline = none → Gives (.summaryRead p (slotField i) 2) .summaryRead .empty [])
    ∧ ∀ depth : Fin 8,
        let e := (s.slot i).stack[(s.slot i).top + depth]
        (e.tag = .valid → Gives (.evPeek p (slotField i) (argField depth)) .evPeek .ok e.record.words)
        ∧ (e.tag = .empty → Gives (.evPeek p (slotField i) (argField depth)) .evPeek .empty [0])

/-! ## The stack commands -/

/-- R116, whole: EV-RETIRE tags the entry at TOP EMPTY and moves TOP forward in either case; it replies OK or EMPTY by that entry's
tag and gives no record back; the entry retired is where the next push lands. -/
def Obligations.EvRetireRemovesTheTopEntry : Prop :=
  ∀ (p : Party) (i : Fin 8) (arg : Nibble) (s : State), s.Reaches p i → (s.slot i).withheld = none →
    ∃ t, exec (.evRetire p (slotField i) arg) s = .next t
      ∧ s.Answered p .evRetire (slotField i) (if ((s.slot i).entryAt 0).tag = .valid then .ok else .empty) [] t
      ∧ (t.slot i).top = (s.slot i).top + 1
      ∧ (∀ n : Fin 8, (t.slot i).stack[n] =
          if n = (s.slot i).top then { (s.slot i).stack[n] with tag := .empty } else (s.slot i).stack[n])
      ∧ (∀ k : Fin 8, k ≠ 7 → (t.slot i).entryAt k = (s.slot i).entryAt (k + 1))
      ∧ ((t.slot i).entryAt 7).tag = .empty
      ∧ (∀ r, ((t.slot i).push r).faults = (t.slot i).faults)
      ∧ t.slot i =
          { s.slot i with stack := (t.slot i).stack, top := (t.slot i).top, holdTimer := s.holdAfter p i }
      ∧ s.OnlySlot i t

/-- R117, R118: EV-FREE tags the entry at its depth EMPTY and leaves TOP and the other entries; EV-CLEAR tags every entry EMPTY
and makes TOP 0. -/
def Obligations.EvFreeAndEvClearRemoveEntries : Prop :=
  ∀ (p : Party) (i : Fin 8) (s : State), s.Reaches p i → (s.slot i).withheld = none →
    (∀ depth : Fin 8, ∃ t, exec (.evFree p (slotField i) (argField depth)) s = .next t
      ∧ s.Answered p .evFree (slotField i) (if ((s.slot i).entryAt depth).tag = .valid then .ok else .empty) [] t
      ∧ (∀ n : Fin 8, (t.slot i).stack[n] =
          if n = (s.slot i).top + depth then { (s.slot i).stack[n] with tag := .empty } else (s.slot i).stack[n])
      ∧ t.slot i = { s.slot i with stack := (t.slot i).stack, holdTimer := s.holdAfter p i }
      ∧ s.OnlySlot i t)
    ∧ ∀ arg : Nibble, ∃ t, exec (.evClear p (slotField i) arg) s = .next t
      ∧ s.Answered p .evClear (slotField i) .ok [] t
      ∧ (∀ n : Fin 8, (t.slot i).stack[n] = { (s.slot i).stack[n] with tag := .empty })
      ∧ t.slot i = { s.slot i with stack := (t.slot i).stack, top := 0, holdTimer := s.holdAfter p i }
      ∧ s.OnlySlot i t

/-! ## Holding slots -/

/-- R147 to R149: a taken TAKE of a rack-held slot parks the rack's context, its timer stopped, ending an on-phase with the ABORT
summary; gives the bench a fresh context, draining where the rack fed or bled; makes the holder BENCH, at the upper slot of the
pair as well; and starts the hold timer. A TAKE of a bench-held slot restarts its timer alone. That a parked context has no
sub-phase is the model's (log entry 23). -/
def Obligations.TakeParksTheRacksContext : Prop :=
  ∀ (i : Fin 8) (arg : Nibble) (s : State), s.held = false → s.upperPaired i = false → (arg = 0 ∨ arg = 1) →
    ((s.slot i).holder = .bench →
      ∃ t, exec (.take .bench (slotField i) arg) s = .next t
        ∧ s.Answered .bench .take (slotField i) .ok [] t
        ∧ t.slot i = { s.slot i with holdTimer := some (s.holdSetting * 60000000) } ∧ s.OnlySlot i t)
    ∧ ((s.slot i).holder = .rack →
      let st := (s.slot i).active.state
      let ended := if st = .runOn then (s.slot i).formSummary (s.env i) .abort false else s.slot i
      let draining (timer : Option Timer) : Context :=
        { Context.reset with state := .drain, timer := timer, drainNext := some .idle }
      st ≠ .drain → (arg = 1 ∨ st = .idle ∨ st = .faulted ∨ st = .runRest ∨ st = .paused) →
      ∃ t, exec (.take .bench (slotField i) arg) s = .next t
        ∧ s.Answered .bench .take (slotField i) .ok [] t
        ∧ t.slot i =
            { ended with
              parked := some { ended.active with
                state := if st = .manual then .idle else st, timer := none, drainNext := none, subPhase := none }
              active :=
                if st = .runOn ∨ st = .manual then draining (freshTimer (drainOf (s.activeRecord i)))
                else if st = .runBleed then draining (s.slot i).active.timer
                else Context.reset
              holder := .bench, holdTimer := some (s.holdSetting * 60000000) }
        ∧ (∀ j, j ≠ i → t.slot j =
            { s.slot j with
              holder := if s.lowerPaired i ∧ j = upperOf (pairOf i) then .bench else (s.slot j).holder })
        ∧ (∀ q, t.pair q = { s.pair q with rails := if q = pairOf i then none else (s.pair q).rails })
        ∧ t = { s with slots := t.slots, pairs := t.pairs, rack := t.rack, bench := t.bench, bus := t.bus })

/-- R152 to R156: a taken RELEASE ends the bench's hold; the expiry of the running hold timer ends it in the same way and then raises
EXPIRY with both marks. That a restore straight into RUN-ON clears the OPEN flag, and that a complete run goes to IDLE under a
shelf hold too, are the model's (log entries 24 and 26). -/
def Obligations.ReleaseAndExpiryEndTheBenchHold : Prop :=
  ∀ (i : Fin 8) (s : State), s.Reaches .bench i →
    (∀ arg : Nibble, ∃ t, exec (.release .bench (slotField i) arg) s = .next t
      ∧ s.Answered .bench .release (slotField i) .ok [] t ∧ s.BenchHoldEnds i t)
    ∧ ((s.slot i).holdTimer ≠ none →
      ∃ t u, exec (.holdTimerExpiry i) s = .next t ∧ s.BenchHoldEnds i u ∧ s.PortsKept u
        ∧ t.slot i =
            { u.slot i with
              faults :=
                { f := (u.slot i).faults.f ||| 0b1000000, uRack := (u.slot i).faults.uRack ||| 0b1000000
                  uBench := (u.slot i).faults.uBench ||| 0b1000000 } }
        ∧ (∀ j, j ≠ i → t.slot j = u.slot j) ∧ t = { u with slots := t.slots })

/-- R151: HOLD-TIME from the bench sets the hold-time setting, clamped to 1..120, in every condition of the part; timers already
running keep their time. From the rack it is refused NOT-PERMITTED, and a target other than 15 BAD-ARG before that. -/
def Obligations.HoldTimeSetsTheSetting : Prop :=
  ∀ (p : Party) (target arg : Nibble) (op : Word) (s : State), s.held = false →
    let n : Named := ⟨p, .holdTime, target, arg⟩
    (target ≠ 15 → ∃ t, exec (.holdTime p target arg op) s = .next t ∧ s.RefusedPlainly n .badArg t)
    ∧ (target = 15 → p = .rack →
        ∃ t, exec (.holdTime p target arg op) s = .next t ∧ s.RefusedPlainly n .notPermitted t)
    ∧ (target = 15 → p = .bench →
      ∃ t, exec (.holdTime p target arg op) s = .next t
        ∧ s.Answered p .holdTime target (if 1 ≤ op.toNat ∧ op.toNat ≤ 120 then .ok else .clamped) [] t
        ∧ t.holdSetting = (if op.toNat = 0 then 1 else if 120 < op.toNat then 120 else op.toNat)
        ∧ t = { s with holdSetting := t.holdSetting, rack := t.rack, bench := t.bench, bus := t.bus })

/-! ## Faults, profiles, pairs, calibration -/

/-- R164 to R166, R98, R109, R138: FAULT-READ reports flags and marks as they stood, then clears the kinds its mask names: the
issuer's marks always, the flags where the issuer holds the slot and it is not the upper one of a paired pair. Where that clears
CONV the withheld summary is pushed. With target 15 either party clears the flags and its own marks of the part kinds. The first
clauses give each slot kind its bit (12.5), which an occurrence sets in the flags and in both marks (R162). -/
def Obligations.FaultReadReportsThenClears : Prop :=
  (∀ (sl : Slot) (k : SlotFault),
    let bit : BitVec 7 :=
      match k with
      | .trip => 0b0000001
      | .opened => 0b0000010
      | .signature => 0b0000100
      | .drift => 0b0001000
      | .stack => 0b0010000
      | .conv => 0b0100000
      | .expiry => 0b1000000
    sl.raise k =
        { sl with
          faults := { f := sl.faults.f ||| bit, uRack := sl.faults.uRack ||| bit, uBench := sl.faults.uBench ||| bit } }
      ∧ (sl.flag k = true ↔ sl.faults.f &&& bit ≠ 0))
  ∧ ∀ (p : Party) (arg : Nibble) (op : Word) (s : State), s.held = false →
    (∀ i : Fin 8,
      let sl := s.slot i
      let mask : BitVec 7 := op.extractLsb' 0 7
      let clears := sl.holder = p ∧ s.upperPaired i = false
      let cleared :=
        { sl with
          holdTimer := s.readHold p i i
          faults :=
            { f := if clears then sl.faults.f &&& ~~~mask else sl.faults.f
              uRack := if p = .rack then sl.faults.uRack &&& ~~~mask else sl.faults.uRack
              uBench := if p = .bench then sl.faults.uBench &&& ~~~mask else sl.faults.uBench } }
      let releases := clears ∧ mask.getLsbD 5 = true ∧ sl.faults.f.getLsbD 5 = true
      ∃ t w, exec (.faultRead p (slotField i) arg op) s = .next t
        ∧ s.Answered p .faultRead (slotField i) .ok [w] t
        ∧ w.extractLsb' 0 7 = sl.faults.f ∧ w.extractLsb' 8 7 = sl.faults.uRack
        ∧ w.extractLsb' 16 7 = sl.faults.uBench
        ∧ (¬ releases → t.slot i = cleared)
        ∧ (releases → sl.withheld = none → t.slot i = cleared)
        ∧ (releases → ∀ m, sl.withheld = some m → t.slot i = { cleared with withheld := none }.push m.toRecord)
        ∧ (∀ j, j ≠ i → t.slot j = { s.slot j with holdTimer := s.readHold p i j })
        ∧ t = { s with slots := t.slots, rack := t.rack, bench := t.bench, bus := t.bus })
    ∧ ∃ t w, exec (.faultRead p 15 arg op) s = .next t
        ∧ s.Answered p .faultRead 15 .ok [w] t
        ∧ w.extractLsb' 0 5 = s.partFaults.f ∧ w.extractLsb' 8 5 = s.partFaults.uRack
        ∧ w.extractLsb' 16 5 = s.partFaults.uBench
        ∧ t.partFaults =
            { f := s.partFaults.f &&& ~~~(op.extractLsb' 0 5)
              uRack := if p = .rack then s.partFaults.uRack &&& ~~~(op.extractLsb' 0 5) else s.partFaults.uRack
              uBench := if p = .bench then s.partFaults.uBench &&& ~~~(op.extractLsb' 0 5) else s.partFaults.uBench }
        ∧ t = { s with partFaults := t.partFaults, rack := t.rack, bench := t.bench, bus := t.bus }

/-- R33, R55, R170, R173, 12.5, 12.6: ALERT-MASK sets the issuing port's mask alone; PART-STATUS, TRIM-READ and PROFILE-READ report to
either party and change nothing. -/
def Obligations.AlertMaskAndPartReadsAnswerEitherParty : Prop :=
  ∀ (p : Party) (arg : Nibble) (s : State), s.held = false →
    (∀ op : Word, ∃ t, exec (.alertMask p 15 arg op) s = .next t
      ∧ s.Answered p .alertMask 15 .ok [] t
      ∧ t.mask p = { slotKinds := op.extractLsb' 0 7, partKinds := op.extractLsb' 8 5 }
      ∧ t.mask (otherParty p) = s.mask (otherParty p)
      ∧ t = { s with rackMask := t.rackMask, benchMask := t.benchMask, rack := t.rack, bench := t.bench, bus := t.bus })
    ∧ (∃ t w1 w2, exec (.partStatus p 15 arg) s = .next t
      ∧ s.Answered p .partStatus 15 .ok [w1, w2] t ∧ s.OnlyPorts t
      ∧ bitsOf w1 0 2 = (match s.resetCause with
          | .power => 0
          | .line => 1
          | .command => 2)
      ∧ w1.getLsbD 2 = s.programming.isSome
      ∧ bitsOf w1 4 4 = s.programCount % 16
      ∧ (∀ q : Fin 4, bitsOf w1 (8 + 2 * q.val) 2 = (match (s.pair q).mode with
          | .separate => 0
          | .gang => 1
          | .dual => 2))
      ∧ w1.getLsbD 16 = s.heat ∧ w1.getLsbD 17 = s.supplyLow ∧ w1.extractLsb' 24 5 = s.partFaults.f
      ∧ bitsOf w2 0 10 = s.sdiv % 1024)
    ∧ (∀ ch : Fin 8, ∃ t w1 w2 w3, exec (.trimRead p (slotField ch) arg) s = .next t
      ∧ s.Answered p .trimRead (slotField ch) .ok [w1, w2, w3] t ∧ s.OnlyPorts t
      ∧ ((s.channel ch).InRange →
          signedOf w1 16 = (s.channel ch).trim ∧ bitsOf w1 0 16 = (s.channel ch).gain
            ∧ signedOf w2 16 = (s.channel ch).storedTrim ∧ bitsOf w2 0 16 = (s.channel ch).storedGain)
      ∧ bitsOf w3 0 4 = s.programCount % 16 ∧ w3.getLsbD 4 = s.programming.isSome)
    ∧ ∀ target : Nibble, ∃ t w, exec (.profileRead p target arg) s = .next t
      ∧ s.Answered p .profileRead target .ok (w :: (s.profile (profileOf target)).record.words) t ∧ s.OnlyPorts t
      ∧ bitsOf w 0 4 = target.toNat
      ∧ bitsOf w 8 4 = (s.profile (profileOf target)).record.stages.length % 16
      ∧ bitsOf w 16 5 = (s.profile (profileOf target)).useCount % 32

/-- R43 to R49 and R51: a PROFILE-WRITE of 1 to 12 stages that is no BAD-ARG, to a profile no context is bound to, replaces the whole record
with the carried one, clamped and related field by field; CLAMPED where that changed a field. BAD-ARG stands before IN-USE, and a
refused write changes nothing. -/
def Obligations.ProfileWriteStoresTheClampedRecord : Prop :=
  ∀ (p : Party) (target arg : Nibble) (ops : Vector Word 30) (s : State), s.held = false →
    let n : Named := ⟨p, .profileWrite, target, arg⟩
    let q := profileOf target
    let row : Instr := .profileWrite p target arg ops
    let count := arg.toNat
    let w (k : Nat) : Word := ops.toList.getD k 0
    let lo (k : Nat) : Nat := bitsOf (w k) 0 16
    let hi (k : Nat) : Nat := bitsOf (w k) 16 16
    let badBand := ∃ k, k < count ∧ bitsOf (w (6 + 2 * k)) 0 2 = 3 ∧ hi (7 + 2 * k) < lo (7 + 2 * k)
    let bad := lo 3 = 0 ∨ bitsOf (w 5) 30 2 = 3 ∨ badBand
    (count = 0 ∨ 12 < count → ∃ t, exec row s = .next t ∧ s.RefusedPlainly n .badArg t)
    ∧ (1 ≤ count → count ≤ 12 → bad → ∃ t, exec row s = .next t ∧ s.RefusedPlainly n .badArg t)
    ∧ (1 ≤ count → count ≤ 12 → ¬ bad → (s.profile q).useCount ≠ 0 →
        ∃ t, exec row s = .next t ∧ s.RefusedPlainly n .inUse t)
    ∧ (1 ≤ count → count ≤ 12 → ¬ bad → (s.profile q).useCount = 0 →
      ∃ t r, exec row s = .next t
        ∧ t.profile q = { record := r, useCount := 0 }
        ∧ r.surgeLimit = min (lo 0) 32767 ∧ r.soakLimit = min (hi 0) 32767
        ∧ r.tripLevel = max (min (lo 1) 32767) (max r.surgeLimit r.soakLimit) ∧ r.openThreshold = min (hi 1) 32767
        ∧ r.standbyLimit = min (lo 2) 32767 ∧ r.standbyTrip = max (min (hi 2) 32767) r.standbyLimit
        ∧ r.onTime = lo 3 ∧ r.offTime = hi 3 ∧ r.cycleCount = lo 4 ∧ r.driftLimit = min (hi 4) 32767
        ∧ r.surgeCode = bitsOf (w 5) 0 8 ∧ r.bleed = min (bitsOf (w 5) 8 8) (hi 3)
        ∧ r.standbyLead = min (bitsOf (w 5) 16 8) (lo 3 - 1)
        ∧ r.tripDebounce = max 1 (min (bitsOf (w 5) 24 6) 15) 
        ∧ bitsOf (w 5) 30 2 = (match r.action with
            | .carryOn => 0
            | .cut => 1
            | .halt => 2)
        ∧ r.stages.length = count
        ∧ (∀ k st, r.stages[k]? = some st →
            bitsOf (w (6 + 2 * k)) 0 2 = (match st.kind with
                | .wait => 0
                | .rise => 1
                | .dip => 2
                | .band => 3)
              ∧ st.dd = max 1 (min (bitsOf (w (6 + 2 * k)) 2 6) 15)
              ∧ st.window = max 1 (hi (6 + 2 * k)) ∧ st.a = min (lo (7 + 2 * k)) 32767
              ∧ st.b = min (hi (7 + 2 * k)) 32767)
        ∧ s.Answered p .profileWrite target
            (if r = (writeCarried (ops.toList.take (6 + 2 * count))).1 then .ok else .clamped) [] t
        ∧ (∀ q', q' ≠ q → t.profile q' = s.profile q')
        ∧ t = { s with profiles := t.profiles, rack := t.rack, bench := t.bench, bus := t.bus })

/-- R134, R135, R137: PAIR is taken from the holder of both slots, both IDLE and without a parked context. The upper slot unbinds, the mode
changes, the converters restart where the pair newly enters GANG or DUAL, both trip counts become 0, and the upper slot takes
the lower's holder with its timer stopped and its checker at the starting values of R59, which it takes at the PAIR (log entry
22). BAD-ARG, NOT-HOLDER and BUSY stand in that order. -/
def Obligations.PairSetsTheMode : Prop :=
  ∀ (p : Party) (target arg : Nibble) (s : State), s.held = false →
    let n : Named := ⟨p, .pair, target, arg⟩
    (4 ≤ target.toNat ∨ 3 ≤ arg.toNat → ∃ t, exec (.pair p target arg) s = .next t ∧ s.RefusedPlainly n .badArg t)
    ∧ ∀ (pr : Fin 4) (mode : PairMode), target = pairField pr →
      (arg = match mode with
        | .separate => 0
        | .gang => 1
        | .dual => 2) →
      let x := lowerOf pr
      let y := upperOf pr
      let both := (s.slot x).holder = p ∧ (s.slot y).holder = p
      let free := (s.slot x).active.state = .idle ∧ (s.slot y).active.state = .idle ∧ (s.slot x).parked = none
        ∧ (s.slot y).parked = none
      (¬ both → ∃ t, exec (.pair p target arg) s = .next t ∧ s.RefusedPlainly n .notHolder t)
      ∧ (both → ¬ free → ∃ t, exec (.pair p target arg) s = .next t
          ∧ s.Answered p .pair target .busy [] t
          ∧ t.slot x = { s.slot x with holdTimer := s.holdAfter p x } ∧ s.OnlySlot x t)
      ∧ (both → free → ∃ t, exec (.pair p target arg) s = .next t
          ∧ s.Answered p .pair target .ok [] t
          ∧ t.pair pr = { mode := mode, rails := none } ∧ (∀ q, q ≠ pr → t.pair q = s.pair q)
          ∧ t.slot x = { s.slot x with holdTimer := s.holdAfter p x }
          ∧ t.slot y =
              { s.slot y with
                active := { (s.slot y).active with
                  bound := none
                  checker :=
                    if mode = .separate then (s.slot y).active.checker
                    else { condition := .idle, stage := 0, j := 0, run := 0, armed := false, max := 0 } }
                holdTimer := if mode = .separate then (s.slot y).holdTimer else none }
          ∧ (∀ j, j ≠ x → j ≠ y → t.slot j = s.slot j)
          ∧ s.ReleasesBinding y t
          ∧ (∀ c, t.channel c =
              { s.channel c with
                tripCount := if c = x ∨ c = y then 0 else (s.channel c).tripCount
                conversion :=
                  if (c = x ∨ c = y) ∧ mode ≠ .separate ∧ mode ≠ (s.pair pr).mode then 0
                  else (s.channel c).conversion })
          ∧ t = { s with slots := t.slots, channels := t.channels, pairs := t.pairs, profiles := t.profiles,
                         rack := t.rack, bench := t.bench, bus := t.bus })

/-- R39 and the conditions R38 gives for it: SET-SAMPLING sets SDIV to the carried divider clamped to 24..1023, replies CLAMPED
where it was, and restarts all eight converters whether or not SDIV changed, so that the channels are aligned; present
currents are kept. The first clause says when the next arrival is due, at a channel or at a pair, by the model's clock (log entry
2): one sample period of conversion later. -/
def Obligations.SetSamplingSetsTheDivider : Prop :=
  (∀ (u : State) (ch : Fin 8),
    u.samplesDue ch ≠ [] ↔ 4 * (u.sdiv + 1) ≤ (u.channel ch).conversion ∧ u.upperPaired ch = false)
  ∧ ∀ (p : Party) (target arg : Nibble) (op : Word) (s : State), s.held = false →
    let n : Named := ⟨p, .setSampling, target, arg⟩
    let row : Instr := .setSampling p target arg op
    let all := ∀ i, (s.slot i).holder = p
    let atRest := ∀ i, (s.slot i).active.state = .idle ∨ (s.slot i).active.state = .faulted
    (target ≠ 15 → ∃ t, exec row s = .next t ∧ s.RefusedPlainly n .badArg t)
    ∧ (target = 15 → ¬ all → ∃ t, exec row s = .next t ∧ s.RefusedPlainly n .notPermitted t)
    ∧ (target = 15 → all → s.programming ≠ none ∨ ¬ atRest →
        ∃ t, exec row s = .next t ∧ s.RefusedPlainly n .busy t)
    ∧ (target = 15 → all → s.programming = none → atRest → ∃ t, exec row s = .next t
        ∧ s.Answered p .setSampling target (if 24 ≤ op.toNat ∧ op.toNat ≤ 1023 then .ok else .clamped) [] t
        ∧ t.sdiv = (if op.toNat < 24 then 24 else if 1023 < op.toNat then 1023 else op.toNat)
        ∧ t.samplePeriod = 4 * (t.sdiv + 1)
        ∧ (∀ c, t.channel c = { s.channel c with conversion := 0 })
        ∧ t = { s with sdiv := t.sdiv, channels := t.channels, rack := t.rack, bench := t.bench, bus := t.bus })

/-- R32, R34 to R38: TRIM-SET sets a channel's working values, clamped; TRIM-PROGRAM raises the count at once and captures them all, or is
EXHAUSTED at 15; the completion stores what was captured, all channels together. Both commands need the whole part held, no
programming and every slot at rest. -/
def Obligations.TrimsAreSetProgrammedAndStored : Prop :=
  ∀ (p : Party) (arg : Nibble) (s : State), s.held = false →
    let all := ∀ i, (s.slot i).holder = p
    let atRest := ∀ i, (s.slot i).active.state = .idle ∨ (s.slot i).active.state = .faulted
    (∀ (ch : Fin 8) (op : Word),
      let n : Named := ⟨p, .trimSet, slotField ch, arg⟩
      let row : Instr := .trimSet p (slotField ch) arg op
      let trim := (op.extractLsb' 16 16).toInt
      let gain := (op.extractLsb' 0 16).toNat
      (¬ all → ∃ t, exec row s = .next t ∧ s.RefusedPlainly n .notPermitted t)
      ∧ (all → s.programming ≠ none ∨ ¬ atRest → ∃ t, exec row s = .next t ∧ s.RefusedPlainly n .busy t)
      ∧ (all → s.programming = none → atRest → ∃ t, exec row s = .next t
          ∧ s.Answered p .trimSet (slotField ch)
              (if -16 ≤ trim ∧ trim ≤ 15 ∧ gain ≤ 1023 then .ok else .clamped) [] t
          ∧ t.channel ch =
              { s.channel ch with
                trim := if trim < -16 then -16 else if 15 < trim then 15 else trim
                gain := if 1023 < gain then 1023 else gain }
          ∧ (∀ c, c ≠ ch → t.channel c = s.channel c)
          ∧ t = { s with channels := t.channels, rack := t.rack, bench := t.bench, bus := t.bus }))
    ∧ (let n : Named := ⟨p, .trimProgram, 15, arg⟩
       let row : Instr := .trimProgram p 15 arg
       (¬ all → ∃ t, exec row s = .next t ∧ s.RefusedPlainly n .notPermitted t)
       ∧ (all → s.programming ≠ none ∨ ¬ atRest → ∃ t, exec row s = .next t ∧ s.RefusedPlainly n .busy t)
       ∧ (all → s.programming = none → atRest → 15 ≤ s.programCount →
           ∃ t, exec row s = .next t ∧ s.RefusedPlainly n .exhausted t)
       ∧ (all → s.programming = none → atRest → s.programCount < 15 → ∃ t pg, exec row s = .next t
           ∧ s.Answered p .trimProgram 15 .ok [] t
           ∧ t.programCount = s.programCount + 1 ∧ t.programming = some pg ∧ pg.elapsed = 0
           ∧ (∀ c : Fin 8, pg.captured[c] = ((s.channel c).trim, (s.channel c).gain))
           ∧ t = { s with programCount := t.programCount, programming := t.programming, rack := t.rack,
                          bench := t.bench, bus := t.bus }))
    ∧ (∀ pg, s.programming = some pg → ∃ t, exec .trimProgrammingCompletion s = .next t
        ∧ t.programming = none
        ∧ (∀ c : Fin 8, t.channel c =
            { s.channel c with storedTrim := (pg.captured[c]).1, storedGain := (pg.captured[c]).2 })
        ∧ t = { s with programming := none, channels := t.channels })

/-! ## Samples, trips and the signature -/

/-- R23, R24, R30, R8, R18, R58, R59, R81, R120, R121, R126, R127, R141: what a sample that does not trip does. Outside RUN-ON and MANUAL it
shows the present current alone; in MANUAL it is checked and k rises; in LEAD it is checked alone; in the rest of RUN-ON it is
checked, counted, accumulated and given to the checker. The input current is R59's for the pair's mode. That this holds of a
sample taken right after an on-time expiry which began the next on-phase at once is the model's (log entry 25). -/
def Obligations.SamplesAreCheckedAndCounted : Prop :=
  ∀ (row : Instr) (i : Fin 8) (s u : State), s.held = false → s.SampleReaches row i u →
    let c := (s.slot i).active
    let r := s.activeRecord i
    let current := u.inputCurrent i
    let x := lowerOf (pairOf i)
    let y := upperOf (pairOf i)
    let Checked (t : State) (sl : Slot) : Prop :=
      exec row s = .next t ∧ t.slot i = sl ∧ (∀ j, j ≠ i → t.slot j = u.slot j)
        ∧ (∀ ch, t.channel ch = { u.channel ch with tripCount := u.countAfter i ch })
        ∧ t = { u with slots := t.slots, channels := t.channels }
    current = (match s.mode i with
        | .separate => (u.channel i).present
        | .gang => (u.channel x).present + (u.channel y).present
        | .dual => (u.channel y).present)
    ∧ (c.state ≠ .runOn → c.state ≠ .manual → exec row s = .next u)
    ∧ ((∀ ch, ¬ u.trips i ch) →
      (c.state = .manual →
        ∃ t, Checked t { s.slot i with active := { c with k := if c.k < 4294967295 then c.k + 1 else 4294967295 } })
      ∧ (c.state = .runOn → c.subPhase = some .lead → ∃ t, Checked t (s.slot i))
      ∧ (c.state = .runOn → c.subPhase ≠ some .lead →
        let sl := (s.slot i).counted r current
        let surge := r.surgeCode = 255 ∨ sl.active.k ≤ 16 * r.surgeCode
        let out := c.checker.step r.stages (if surge then r.surgeLimit else r.soakLimit) current
        out.2 = none → ∃ t, Checked t { sl with active := { sl.active with checker := out.1 } }))

/-- R68 to R73, R11: a counted sample at which the open stage fails. SIGNATURE and the SIGFAIL record come first; then CONTINUE goes on,
CUT ends the on-phase with verdict SIGFAIL and counts it, HALT ends it uncounted and drains to FAULTED. -/
def Obligations.SignatureFailureActsAsTheProfileSays : Prop :=
  ∀ (row : Instr) (i : Fin 8) (s u : State), s.held = false → s.SampleReaches row i u →
    (s.slot i).active.state = .runOn → (s.slot i).active.subPhase ≠ some .lead → (∀ ch, ¬ u.trips i ch) →
    let c := (s.slot i).active
    let r := s.activeRecord i
    let current := u.inputCurrent i
    let sl := (s.slot i).counted r current
    let surge := r.surgeCode = 255 ∨ sl.active.k ≤ 16 * r.surgeCode
    let out := c.checker.step r.stages (if surge then r.surgeLimit else r.soakLimit) current
    let last := decide (r.cycleCount ≠ 0 ∧ c.d + 1 = r.cycleCount)
    ∀ cause, out.2 = some cause →
      let failed := { sl with active := { sl.active with checker := out.1 } }.failed r current cause
      let cut := failed.formSummary (u.env i) .sigfail last
      ∃ t, exec row s = .next t
        ∧ (r.action = .carryOn →
            t.slot i = failed ∧ ∀ ch, (t.channel ch).tripCount = u.countAfter i ch)
        ∧ (r.action = .halt →
            t.slot i =
              (failed.formSummary (u.env i) .sigfail false).inState .drain (freshTimer (drainOf r)) (some .faulted)
            ∧ ∀ ch, (t.channel ch).tripCount = u.countAfter i ch)
        ∧ (r.action = .cut →
            u.OffPhaseFollows i { cut with active := { cut.active with d := if c.d < 65535 then c.d + 1 else 65535 } }
              (u.countAfter i) t)
        ∧ u.PortsKept t ∧ u.OnlySlotAndTrips i t

/-- R111, R120 to R123: a trip, the lower channel standing for both: TRIP, the TRIP record with the channel's name, present current and
applied level, the trip counts to 0, in RUN-ON the summary with verdict TRIP, and a drain to FAULTED with the rail requests
gone. -/
def Obligations.TripDrainsTheSlotToFaulted : Prop :=
  ∀ (row : Instr) (i ch : Fin 8) (level : Nat) (s u : State), s.held = false → s.SampleReaches row i u →
    ((s.slot i).active.state = .runOn ∨ (s.slot i).active.state = .manual) →
    u.trips i ch → (∀ ch', u.trips i ch' → ch ≤ ch') → u.appliedLevel i ch = some level →
    let sl := s.slot i
    let name : ChannelName := if s.mode i = .separate then .self else if isUpper ch then .upper else .lower
    let noted :=
      (sl.raise .trip).push
        (sl.recordOf sl.active.k (u.inputCurrent i) (.trip name (u.channel ch).present level))
    let ended := if sl.active.state = .runOn then noted.formSummary (u.env i) .trip false else noted
    ∃ t, exec row s = .next t
      ∧ t.slot i = ended.inState .drain (freshTimer (drainOf (s.activeRecord i))) (some .faulted)
      ∧ (∀ j, j ≠ i → t.slot j = s.slot j)
      ∧ (∀ x, t.channel x =
          { u.channel x with tripCount := if s.governor x = i then 0 else (s.channel x).tripCount })
      ∧ (∀ q, t.pair q = { s.pair q with rails := if q = pairOf i then none else (s.pair q).rails })
      ∧ t = { u with slots := t.slots, channels := t.channels, pairs := t.pairs }

/-! ## The slot engine's events -/

/-- R10, R12, R74, R77: the on-time of RUN-ON expires: a walk not finished fails PHASE-END, the summary is formed with PASS for a walk
that is DONE and SIGFAIL for any other, LAST where the run is completed, D rises, and the off-phase follows. -/
def Obligations.OnTimeExpiryCountsTheCycle : Prop :=
  ∀ (i : Fin 8) (s : State), s.held = false →
    ((s.slot i).active.state ≠ .runOn → exec (.onTimeExpiry i) s = .next s)
    ∧ (s.upperPaired i = false → (s.slot i).active.state = .runOn →
      let sl := s.slot i
      let c := sl.active
      let r := s.activeRecord i
      let passed := c.checker.condition = .done
      let closed :=
        if passed ∨ c.checker.condition = .failed then sl else sl.failed r (s.inputCurrent i) .phaseEnd
      let last := decide (r.cycleCount ≠ 0 ∧ c.d + 1 = r.cycleCount)
      let out := closed.formSummary (s.env i) (if passed then .pass else .sigfail) last
      ∃ t, exec (.onTimeExpiry i) s = .next t
        ∧ s.OffPhaseFollows i { out with active := { out.active with d := if c.d < 65535 then c.d + 1 else 65535 } }
            (fun ch => (s.channel ch).tripCount) t
        ∧ s.PortsKept t ∧ s.OnlySlotAndTrips i t)

/-- R12, R14, R141, R155, R156: the ends of the bleed, the rest, the lead and a drain. A drain goes by its drain-next: to IDLE, to FAULTED,
or to the parked context, the drain's own giving up its binding. The elapsed time at the end of LEAD is the model's (log entry
19); so are that an event which finds its slot in another state is not taken (log entry 1), that a restore straight into
RUN-ON clears the OPEN flag (log entry 24), and that a complete run restored under a shelf hold goes to IDLE (log entry 26). -/
def Obligations.PhaseEventsMoveTheSlotOn : Prop :=
  ∀ (i : Fin 8) (s : State), s.held = false → s.upperPaired i = false →
    let sl := s.slot i
    let c := sl.active
    let r := s.activeRecord i
    (c.state = .runBleed → s.shelfHold = false →
      ∃ t, exec (.bleedExpiry i) s = .next t ∧ s.RunGoesOn i sl c t ∧ s.PortsKept t ∧ s.OnlySlotAndTrips i t)
    ∧ (c.state = .runRest →
      ∃ t, exec (.restExpiry i) s = .next t ∧ t.slot i = sl.onPhaseFrom c r (s.mode i)
        ∧ (∀ ch, (t.channel ch).tripCount = if s.governor ch = i then 0 else (s.channel ch).tripCount)
        ∧ s.PortsKept t ∧ s.OnlySlotAndTrips i t)
    ∧ (c.state = .runOn → c.subPhase = some .lead →
      ∃ t, exec (.endOfLead i) s = .next t
        ∧ t.slot i =
            { sl with
              active := { c with
                subPhase := some (if r.surgeCode = 0 then .soak else .surge)
                timer := c.timer.map fun x => { x with elapsed := max x.elapsed (r.standbyLead * 100000) } } }
        ∧ (∀ j, j ≠ i → t.slot j = s.slot j) ∧ t = { s with slots := t.slots })
    ∧ (c.state = .drain → (c.drainNext = some .idle ∨ c.drainNext = some .faulted) →
      ∃ t, exec (.drainCompletion i) s = .next t
        ∧ t.slot i = sl.inState (if c.drainNext = some .idle then .idle else .faulted) none none
        ∧ (∀ j, j ≠ i → t.slot j = s.slot j) ∧ t = { s with slots := t.slots })
    ∧ (c.state = .drain → c.drainNext = some .restore → ∀ parked, sl.parked = some parked →
      ∃ t, exec (.drainCompletion i) s = .next t
        ∧ s.Restores i { sl with parked := none } parked t ∧ s.ReleasesBinding i t
        ∧ (∀ j, j ≠ i → t.slot j = s.slot j)
        ∧ (∀ ch, t.channel ch = { s.channel ch with tripCount := (t.channel ch).tripCount })
        ∧ t = { s with slots := t.slots, channels := t.channels, profiles := t.profiles })
    ∧ (c.state ≠ .runBleed → exec (.bleedExpiry i) s = .next s)
    ∧ (c.state ≠ .runRest → exec (.restExpiry i) s = .next s)
    ∧ (c.state ≠ .drain → exec (.drainCompletion i) s = .next s)
    ∧ (c.state ≠ .runOn ∨ c.subPhase ≠ some .lead → exec (.endOfLead i) s = .next s)

/-! ## Shelf holds, resets and a held part -/

/-- R19, R20, R128 to R131: an input that becomes asserted raises its fault; the first brings the hold into force at every slot: an on-phase
ends with its ABORT summary, a run becomes PAUSED, a manual drive IDLE. The release of the last ends it, and every PAUSED slot's
run goes on. That a level taken already changes nothing is the model's (log entry 1). -/
def Obligations.ShelfInputsPauseAndResumeEverySlot : Prop :=
  ∀ (supply : Bool) (s : State), s.held = false → s.UpperStandsAside →
    let asserts : Instr := if supply then .supplyLowAsserted else .heatAsserted
    let releases : Instr := if supply then .supplyLowReleased else .heatReleased
    let level := if supply then s.supplyLow else s.heat
    let other := if supply then s.heat else s.supplyLow
    let at_ (b : Bool) : State :=
      if supply then { s with supplyLow := b, pins := { s.pins with supplyLow := b } }
      else { s with heat := b, pins := { s.pins with heat := b } }
    let noted : State := { at_ true with partFaults := raised s.partFaults (if supply then 0b00010 else 0b00001) }
    let was (i : Fin 8) : SlotState := (s.slot i).active.state
    let manualIn (q : Fin 4) : Prop := was (lowerOf q) = .manual ∨ was (upperOf q) = .manual
    (level = true → exec asserts s = .next (at_ true))
    ∧ (level = false → other = true → exec asserts s = .next noted)
    ∧ (level = false → other = false → ∃ t, exec asserts s = .next t
        ∧ (∀ i,
          (was i = .runOn → t.slot i = ((s.slot i).formSummary (s.env i) .abort false).inState .paused none none)
          ∧ (was i = .runBleed ∨ was i = .runRest → t.slot i = (s.slot i).inState .paused none none)
          ∧ (was i = .manual → t.slot i = (s.slot i).inState .idle none none)
          ∧ (was i = .idle ∨ was i = .paused ∨ was i = .drain ∨ was i = .faulted → t.slot i = s.slot i))
        ∧ (∀ q, (manualIn q → t.pair q = { s.pair q with rails := none }) ∧ (¬ manualIn q → t.pair q = s.pair q))
        ∧ t = { noted with slots := t.slots, pairs := t.pairs })
    ∧ (level = false ∨ other = true → exec releases s = .next (at_ false))
    ∧ (level = true → other = false → ∃ t, exec releases s = .next t
        ∧ (∀ i,
          (was i = .paused → t.slot i = s.goneOn i false (s.slot i) (s.slot i).active)
          ∧ (was i ≠ .paused → t.slot i = s.slot i))
        ∧ (∀ ch, t.channel ch =
            { s.channel ch with
              tripCount :=
                if was (s.governor ch) = .paused ∧ s.goesOnAtOnce false (s.slot (s.governor ch)).active then 0
                else (s.channel ch).tripCount })
        ∧ t = { at_ false with slots := t.slots, channels := t.channels })

/-- R160, R183 to R185 and each block's reset values: DEVICE-RESET, from the holder of the whole part while nothing is programmed, the
RESET line's release and power-on put the part into its reset condition. Of the ports only
a DEVICE-RESET's issuer holds a reply. That power-on resets the part whether or not RESET is asserted is the model's (log entry
13). -/
def Obligations.ResetsRestoreTheResetValues : Prop :=
  let fresh : Port := { awaited := 0, partialCommand := none, replies := [], prevStatus := none }
  let offBus (b : Bus) : Bus := if b = .idle then .idle else .ignored
  (∀ (p : Party) (target arg : Nibble) (s : State), s.held = false →
    let n : Named := ⟨p, .deviceReset, target, arg⟩
    let row : Instr := .deviceReset p target arg
    let all := ∀ i, (s.slot i).holder = p
    (target ≠ 15 → ∃ t, exec row s = .next t ∧ s.RefusedPlainly n .badArg t)
    ∧ (target = 15 → ¬ all → ∃ t, exec row s = .next t ∧ s.RefusedPlainly n .notPermitted t)
    ∧ (target = 15 → all → s.programming ≠ none → ∃ t, exec row s = .next t ∧ s.RefusedPlainly n .busy t)
    ∧ (target = 15 → all → s.programming = none → ∃ t, exec row s = .next t ∧ s.ResetFrom .command t
        ∧ t.port p = { fresh with replies := [statusWord .ok 0x75 15 0], prevStatus := some .ok }
        ∧ t.port (otherParty p) = fresh ∧ t.bus = s.bus.queueEmptied ∧ t.pins = s.pins))
  ∧ (∀ s : State, s.pins.reset = true → s.pins.logicSupply = true → ∃ t, exec .resetLineReleased s = .next t
      ∧ s.ResetFrom .line t ∧ (∀ p, t.port p = fresh) ∧ t.bus = offBus s.bus
      ∧ t.pins = { s.pins with reset := false })
  ∧ ∀ s : State, s.pins.logicSupply = false → ∃ t, exec .powerOn s = .next t
      ∧ s.ResetFrom .power t ∧ (∀ p, t.port p = fresh) ∧ t.bus = offBus s.bus
      ∧ t.pins = { s.pins with logicSupply := true }

/-- R37, R183: the part is held while RESET is asserted or the logic supply is low: a programming and the transactions in progress are
abandoned, nothing is driven, and no command, frame or event is taken. Levels at the pins go on changing. That an event whose
level stands already changes nothing, that RESET released without supply resets nothing, and that a held part's pins are
followed, are the model's (log entries 1, 13 and 14). -/
def Obligations.HeldPartTakesNothing : Prop :=
  let letGo (s : State) (pins : Pins) : State :=
    { s with
      pins := pins, programming := none, bus := if s.bus = .idle then .idle else .ignored, rdo := []
      benchLine := .released }
  (∀ s : State, s.pins.reset = false → exec .resetLineAsserted s = .next (letGo s { s.pins with reset := true }))
  ∧ (∀ s : State, s.pins.logicSupply = true →
      exec .logicSupplyLoss s = .next (letGo s { s.pins with logicSupply := false }))
  ∧ (∀ (c : Instr) (s : State), s.held = true →
      c ∉ [.heatAsserted, .heatReleased, .supplyLowAsserted, .supplyLowReleased, .resetLineAsserted,
        .resetLineReleased, .logicSupplyLoss, .powerOn] →
      exec c s = .next s)
  ∧ (∀ s : State, s.held = true →
      exec .heatAsserted s = .next { s with pins := { s.pins with heat := true } }
        ∧ exec .heatReleased s = .next { s with pins := { s.pins with heat := false } }
        ∧ exec .supplyLowAsserted s = .next { s with pins := { s.pins with supplyLow := true } }
        ∧ exec .supplyLowReleased s = .next { s with pins := { s.pins with supplyLow := false } })
  ∧ (∀ s : State, s.pins.reset = true → s.pins.logicSupply = false →
      exec .resetLineReleased s = .next { s with pins := { s.pins with reset := false } })
  ∧ ∀ s : State,
      (s.pins.reset = true → exec .resetLineAsserted s = .next s)
        ∧ (s.pins.reset = false → exec .resetLineReleased s = .next s)
        ∧ (s.pins.logicSupply = false → exec .logicSupplyLoss s = .next s)
        ∧ (s.pins.logicSupply = true → exec .powerOn s = .next s)

/-! ## The ports -/

/-- R163, R174 to R176, R180, R183: a rack frame drives RDO with as many bits as it had clocks; one of 17 clocks with kind bit 1 hands its
header to the assembler, one of 33 with kind bit 0 its data word, the head reply word being removed; any other count raises
RLINK alone. No clocks are no frame; the rest of a frame begun before a reset is ignored. What RDO shows is recorded for the whole
frame at once, as of its step (log entry 7). -/
def Obligations.RackFramesAreCountedAndHandedOn : Prop :=
  ∀ (clocks : Nat) (before : Bool) (s : State), s.held = false →
    let prev : Byte := match s.rack.prevStatus with
      | none => 0xFF
      | some st => st.code
    let headerBits : BitVec 17 := (1#1) ++ (s.alertSummary ++ prev)
    let dataBits : BitVec 33 := match s.rack.replies with
      | [] => 0
      | w :: _ => (1#1) ++ w
    let heard (rdo : List Bool) : State := { s with rdo := rdo.take clocks }
    let header := heard ((List.range 17).map fun k => headerBits.getMsbD k)
    let data := heard ((List.range 33).map fun k => dataBits.getMsbD k)
    let broken (u : State) : State := { u with partFaults := raised s.partFaults 0b01000 }
    (∀ h : HeaderWord,
      (clocks = 0 ∨ before = true → exec (.rackHeaderFrame clocks h before) s = .next s)
      ∧ (clocks ≠ 0 → clocks ≠ 17 → before = false →
          exec (.rackHeaderFrame clocks h before) s = .next (broken header))
      ∧ (clocks = 17 → before = false →
          HeaderAssembles .rack (h.extractLsb' 8 8) (h.extractLsb' 4 4) (h.extractLsb' 0 4) header
            (exec (.rackHeaderFrame clocks h before) s)))
    ∧ ∀ w : Word,
      (clocks = 0 ∨ before = true → exec (.rackDataFrame clocks w before) s = .next s)
      ∧ (clocks ≠ 0 → clocks ≠ 33 → before = false → exec (.rackDataFrame clocks w before) s = .next (broken data))
      ∧ (clocks = 33 → before = false → s.rack.assembly = true →
          DataAssembles .rack w { data with rack := { s.rack with replies := s.rack.replies.tail } }
            (exec (.rackDataFrame clocks w before) s))

/-- R177 and R178: a start or a stop condition ends the transaction, discarding a unit begun with BLINK; an address byte that carries the
bench address is acknowledged; between units only 01h and 02h are taken, any other byte raising BLINK and ending the port's part;
and R179: a read gives the holder byte, then the reply words low byte first, each removed at its fourth byte, then FFh. That a read
byte says whether it is acknowledged, and that a start ends a rejected transaction, are the model's readings (log entries 9 and
10). -/
def Obligations.BenchBusTransactionsFollowTheirBytes : Prop :=
  ∀ (s : State) (b : Byte) (acked : Bool), s.held = false →
    let on (bus : Bus) (line : BenchLine) : State := { s with bus := bus, benchLine := line }
    let blink (u : State) : State := { u with partFaults := raised s.partFaults 0b10000 }
    (∀ stop : Bool,
      let row : Instr := if stop then .benchStopCondition else .benchStartCondition
      let ended := on (if stop then .idle else .addressing) .released
      (∀ k unit, s.bus = .writing (k :: unit) → exec row s = .next (blink ended))
      ∧ ((∀ k unit, s.bus ≠ .writing (k :: unit)) → exec row s = .next ended))
    ∧ (s.bus = .addressing →
      (b.extractLsb' 1 7 ≠ s.benchAddress → exec (.benchAddressByte b) s = .next (on .ignored .released))
      ∧ (b.extractLsb' 1 7 = s.benchAddress → b.getLsbD 0 = false →
          exec (.benchAddressByte b) s = .next (on (.writing []) .acknowledged))
      ∧ (b.extractLsb' 1 7 = s.benchAddress → b.getLsbD 0 = true →
          exec (.benchAddressByte b) s = .next (on (.reading false 0 false) .acknowledged)))
    ∧ (∀ row : Instr, (row = .benchUnitByte b ∨ row = .badKindByte b) →
      (s.bus = .writing [] → (b = 0x01 ∨ b = 0x02) → exec row s = .next (on (.writing [b]) .acknowledged))
      ∧ (s.bus = .writing [] → b ≠ 0x01 → b ≠ 0x02 → exec row s = .next (blink (on .rejected .unacknowledged)))
      ∧ (s.bus = .rejected → exec row s = .next (on .rejected .unacknowledged))
      ∧ (s.bus = .ignored ∨ s.bus = .idle → exec row s = .next s))
    ∧ (∀ n, s.bus = .reading false n false →
        exec (.benchReadByte acked) s = .next (on (.reading true n (!acked)) (.sent s.holderByte)))
    ∧ (∀ n, s.bus = .reading true n false → n < 4 →
        (s.bench.replies = [] →
          exec (.benchReadByte acked) s =
            .next { on (.reading true 0 (!acked)) (.sent 0xFF) with holderByte := 0xFF })
        ∧ ∀ w rest, s.bench.replies = w :: rest →
          exec (.benchReadByte acked) s =
            .next
              { on (.reading true (if n = 3 then 0 else n + 1) (!acked)) (.sent (w.extractLsb' (8 * n) 8)) with
                holderByte := w.extractLsb' (8 * n) 8
                bench := { s.bench with replies := if n = 3 then rest else w :: rest } })
    ∧ ∀ sent n, s.bus = .reading sent n true → exec (.benchReadByte acked) s = .next s

/-- R178, R180, 12.3: a bench unit, written whole or byte by byte, is acknowledged at each byte; at its last the header or the data word is
handed to the assembler, low byte first. A whole unit's row is the model's grouping of its bytes (log entry 8). -/
def Obligations.BenchUnitsAreHandedToTheAssembler : Prop :=
  ∀ s : State, s.held = false →
    let on (unit : List Byte) : State := { s with bus := .writing unit, benchLine := .acknowledged }
    let Header (h : HeaderWord) (row : Instr) : Prop :=
      HeaderAssembles .bench (h.extractLsb' 8 8) (h.extractLsb' 4 4) (h.extractLsb' 0 4) (on []) (exec row s)
    (∀ h : HeaderWord,
      (s.bus = .writing [] → Header h (.benchHeaderUnit h))
      ∧ ∀ b, s.bus = .writing [0x01] → exec (.benchUnitByte b) s = .next (on [0x01, b]))
    ∧ (∀ lo hi : Byte, s.bus = .writing [0x01, lo] → Header (hi ++ lo) (.benchUnitByte hi))
    ∧ (s.bench.assembly = true →
      (∀ w : Word, s.bus = .writing [] → DataAssembles .bench w (on []) (exec (.benchDataUnit w) s))
      ∧ ∀ b0 b1 b2 b3 : Byte, s.bus = .writing [0x02, b0, b1, b2] →
          DataAssembles .bench (b3 ++ (b2 ++ (b1 ++ b0))) (on []) (exec (.benchUnitByte b3) s))
    ∧ ∀ (b : Byte) (unit : List Byte), unit.length < 3 → s.bus = .writing (0x02 :: unit) →
        exec (.benchUnitByte b) s = .next (on (0x02 :: (unit ++ [b])))

/-! ## Refusals -/

/-- R181, R3, R114, R137, R145, R146, R150, R153: a refused command's status. BAD-ARG of the header stands first; then a rack TAKE or RELEASE
NOT-PERMITTED; then PAIRED at an upper slot; then NOT-HOLDER: each leaves the part as it was. A holder's command that the slot's
conditions refuse restarts the hold timer of a bench-held slot and changes nothing else. -/
def Obligations.RefusalsStandInTheirOrder : Prop :=
  ∀ (c : Instr) (n : Named) (s : State), namedOf c = some n → s.held = false →
    let Plainly (st : Status) : Prop := ∃ t, exec c s = .next t ∧ s.RefusedPlainly n st t
    (n.badHeader = true → Plainly .badArg)
    ∧ (n.badHeader = false → (n.cmd = .take ∨ n.cmd = .release) → n.party = .rack → Plainly .notPermitted)
    ∧ ∀ i : Fin 8, n.target = slotField i → n.badHeader = false →
      ((Cmd.ofHolder n.cmd = true ∨ n.cmd = .evFree) →
        (s.upperPaired i = true → Plainly .paired)
        ∧ (s.upperPaired i = false → (s.slot i).holder ≠ n.party → Plainly .notHolder))
      ∧ ((n.cmd = .take ∨ n.cmd = .release) → n.party = .bench →
        (s.upperPaired i = true → Plainly .paired)
        ∧ (s.upperPaired i = false → (s.slot i).holder = .rack → n.cmd = .release → Plainly .notHolder)
        ∧ (s.upperPaired i = false → (s.slot i).holder = .rack → n.cmd = .take →
            ((s.slot i).active.state = .drain
              ∨ (n.arg = 0 ∧ ((s.slot i).active.state = .runOn ∨ (s.slot i).active.state = .runBleed
                ∨ (s.slot i).active.state = .manual))) →
            Plainly .busy))
      ∧ ∀ st : Status, s.Reaches n.party i →
          ((Cmd.ofHolder n.cmd = true ∧ s.conditionRefusal i n = some st)
            ∨ (n.cmd = .evFree ∧ (s.slot i).withheld ≠ none ∧ st = .pending)) →
          ∃ t, exec c s = .next t ∧ s.Answered n.party n.cmd n.target st [] t
            ∧ t.slot i = { s.slot i with holdTimer := s.holdAfter n.party i } ∧ s.OnlySlot i t

end
end

