-- ==== Sys2Proof/Laws/State.lean ====
section
/-!
SUPPORT. What each update of one part of the state leaves: one lemma a field and an update, so that no later proof unfolds a
record update.
-/

namespace Sys2Proof.Machine

variable (s : State)

/-! ## State.modSlot -/

@[simp] theorem State.modSlot_channels (i : Fin 8) (f : Slot → Slot) : (s.modSlot i f).channels = s.channels := rfl
@[simp] theorem State.modSlot_pairs (i : Fin 8) (f : Slot → Slot) : (s.modSlot i f).pairs = s.pairs := rfl
@[simp] theorem State.modSlot_profiles (i : Fin 8) (f : Slot → Slot) : (s.modSlot i f).profiles = s.profiles := rfl
@[simp] theorem State.modSlot_sdiv (i : Fin 8) (f : Slot → Slot) : (s.modSlot i f).sdiv = s.sdiv := rfl
@[simp] theorem State.modSlot_programCount (i : Fin 8) (f : Slot → Slot) : (s.modSlot i f).programCount = s.programCount := rfl
@[simp] theorem State.modSlot_programming (i : Fin 8) (f : Slot → Slot) : (s.modSlot i f).programming = s.programming := rfl
@[simp] theorem State.modSlot_holdSetting (i : Fin 8) (f : Slot → Slot) : (s.modSlot i f).holdSetting = s.holdSetting := rfl
@[simp] theorem State.modSlot_partFaults (i : Fin 8) (f : Slot → Slot) : (s.modSlot i f).partFaults = s.partFaults := rfl
@[simp] theorem State.modSlot_rackMask (i : Fin 8) (f : Slot → Slot) : (s.modSlot i f).rackMask = s.rackMask := rfl
@[simp] theorem State.modSlot_benchMask (i : Fin 8) (f : Slot → Slot) : (s.modSlot i f).benchMask = s.benchMask := rfl
@[simp] theorem State.modSlot_resetCause (i : Fin 8) (f : Slot → Slot) : (s.modSlot i f).resetCause = s.resetCause := rfl
@[simp] theorem State.modSlot_heat (i : Fin 8) (f : Slot → Slot) : (s.modSlot i f).heat = s.heat := rfl
@[simp] theorem State.modSlot_supplyLow (i : Fin 8) (f : Slot → Slot) : (s.modSlot i f).supplyLow = s.supplyLow := rfl
@[simp] theorem State.modSlot_rack (i : Fin 8) (f : Slot → Slot) : (s.modSlot i f).rack = s.rack := rfl
@[simp] theorem State.modSlot_bench (i : Fin 8) (f : Slot → Slot) : (s.modSlot i f).bench = s.bench := rfl
@[simp] theorem State.modSlot_holderByte (i : Fin 8) (f : Slot → Slot) : (s.modSlot i f).holderByte = s.holderByte := rfl
@[simp] theorem State.modSlot_benchAddress (i : Fin 8) (f : Slot → Slot) : (s.modSlot i f).benchAddress = s.benchAddress := rfl
@[simp] theorem State.modSlot_bus (i : Fin 8) (f : Slot → Slot) : (s.modSlot i f).bus = s.bus := rfl
@[simp] theorem State.modSlot_rdo (i : Fin 8) (f : Slot → Slot) : (s.modSlot i f).rdo = s.rdo := rfl
@[simp] theorem State.modSlot_benchLine (i : Fin 8) (f : Slot → Slot) : (s.modSlot i f).benchLine = s.benchLine := rfl
@[simp] theorem State.modSlot_pins (i : Fin 8) (f : Slot → Slot) : (s.modSlot i f).pins = s.pins := rfl
@[simp] theorem State.modSlot_freeUsed (i : Fin 8) (f : Slot → Slot) : (s.modSlot i f).freeUsed = s.freeUsed := rfl
@[simp] theorem State.modSlot_pending (i : Fin 8) (f : Slot → Slot) : (s.modSlot i f).pending = s.pending := rfl

/-! ## State.modChannel -/

@[simp] theorem State.modChannel_slots (i : Fin 8) (f : Channel → Channel) : (s.modChannel i f).slots = s.slots := rfl
@[simp] theorem State.modChannel_pairs (i : Fin 8) (f : Channel → Channel) : (s.modChannel i f).pairs = s.pairs := rfl
@[simp] theorem State.modChannel_profiles (i : Fin 8) (f : Channel → Channel) : (s.modChannel i f).profiles = s.profiles := rfl
@[simp] theorem State.modChannel_sdiv (i : Fin 8) (f : Channel → Channel) : (s.modChannel i f).sdiv = s.sdiv := rfl
@[simp] theorem State.modChannel_programCount (i : Fin 8) (f : Channel → Channel) : (s.modChannel i f).programCount = s.programCount := rfl
@[simp] theorem State.modChannel_programming (i : Fin 8) (f : Channel → Channel) : (s.modChannel i f).programming = s.programming := rfl
@[simp] theorem State.modChannel_holdSetting (i : Fin 8) (f : Channel → Channel) : (s.modChannel i f).holdSetting = s.holdSetting := rfl
@[simp] theorem State.modChannel_partFaults (i : Fin 8) (f : Channel → Channel) : (s.modChannel i f).partFaults = s.partFaults := rfl
@[simp] theorem State.modChannel_rackMask (i : Fin 8) (f : Channel → Channel) : (s.modChannel i f).rackMask = s.rackMask := rfl
@[simp] theorem State.modChannel_benchMask (i : Fin 8) (f : Channel → Channel) : (s.modChannel i f).benchMask = s.benchMask := rfl
@[simp] theorem State.modChannel_resetCause (i : Fin 8) (f : Channel → Channel) : (s.modChannel i f).resetCause = s.resetCause := rfl
@[simp] theorem State.modChannel_heat (i : Fin 8) (f : Channel → Channel) : (s.modChannel i f).heat = s.heat := rfl
@[simp] theorem State.modChannel_supplyLow (i : Fin 8) (f : Channel → Channel) : (s.modChannel i f).supplyLow = s.supplyLow := rfl
@[simp] theorem State.modChannel_rack (i : Fin 8) (f : Channel → Channel) : (s.modChannel i f).rack = s.rack := rfl
@[simp] theorem State.modChannel_bench (i : Fin 8) (f : Channel → Channel) : (s.modChannel i f).bench = s.bench := rfl
@[simp] theorem State.modChannel_holderByte (i : Fin 8) (f : Channel → Channel) : (s.modChannel i f).holderByte = s.holderByte := rfl
@[simp] theorem State.modChannel_benchAddress (i : Fin 8) (f : Channel → Channel) : (s.modChannel i f).benchAddress = s.benchAddress := rfl
@[simp] theorem State.modChannel_bus (i : Fin 8) (f : Channel → Channel) : (s.modChannel i f).bus = s.bus := rfl
@[simp] theorem State.modChannel_rdo (i : Fin 8) (f : Channel → Channel) : (s.modChannel i f).rdo = s.rdo := rfl
@[simp] theorem State.modChannel_benchLine (i : Fin 8) (f : Channel → Channel) : (s.modChannel i f).benchLine = s.benchLine := rfl
@[simp] theorem State.modChannel_pins (i : Fin 8) (f : Channel → Channel) : (s.modChannel i f).pins = s.pins := rfl
@[simp] theorem State.modChannel_freeUsed (i : Fin 8) (f : Channel → Channel) : (s.modChannel i f).freeUsed = s.freeUsed := rfl
@[simp] theorem State.modChannel_pending (i : Fin 8) (f : Channel → Channel) : (s.modChannel i f).pending = s.pending := rfl

/-! ## State.modPair -/

@[simp] theorem State.modPair_slots (q : Fin 4) (f : Pair → Pair) : (s.modPair q f).slots = s.slots := rfl
@[simp] theorem State.modPair_channels (q : Fin 4) (f : Pair → Pair) : (s.modPair q f).channels = s.channels := rfl
@[simp] theorem State.modPair_profiles (q : Fin 4) (f : Pair → Pair) : (s.modPair q f).profiles = s.profiles := rfl
@[simp] theorem State.modPair_sdiv (q : Fin 4) (f : Pair → Pair) : (s.modPair q f).sdiv = s.sdiv := rfl
@[simp] theorem State.modPair_programCount (q : Fin 4) (f : Pair → Pair) : (s.modPair q f).programCount = s.programCount := rfl
@[simp] theorem State.modPair_programming (q : Fin 4) (f : Pair → Pair) : (s.modPair q f).programming = s.programming := rfl
@[simp] theorem State.modPair_holdSetting (q : Fin 4) (f : Pair → Pair) : (s.modPair q f).holdSetting = s.holdSetting := rfl
@[simp] theorem State.modPair_partFaults (q : Fin 4) (f : Pair → Pair) : (s.modPair q f).partFaults = s.partFaults := rfl
@[simp] theorem State.modPair_rackMask (q : Fin 4) (f : Pair → Pair) : (s.modPair q f).rackMask = s.rackMask := rfl
@[simp] theorem State.modPair_benchMask (q : Fin 4) (f : Pair → Pair) : (s.modPair q f).benchMask = s.benchMask := rfl
@[simp] theorem State.modPair_resetCause (q : Fin 4) (f : Pair → Pair) : (s.modPair q f).resetCause = s.resetCause := rfl
@[simp] theorem State.modPair_heat (q : Fin 4) (f : Pair → Pair) : (s.modPair q f).heat = s.heat := rfl
@[simp] theorem State.modPair_supplyLow (q : Fin 4) (f : Pair → Pair) : (s.modPair q f).supplyLow = s.supplyLow := rfl
@[simp] theorem State.modPair_rack (q : Fin 4) (f : Pair → Pair) : (s.modPair q f).rack = s.rack := rfl
@[simp] theorem State.modPair_bench (q : Fin 4) (f : Pair → Pair) : (s.modPair q f).bench = s.bench := rfl
@[simp] theorem State.modPair_holderByte (q : Fin 4) (f : Pair → Pair) : (s.modPair q f).holderByte = s.holderByte := rfl
@[simp] theorem State.modPair_benchAddress (q : Fin 4) (f : Pair → Pair) : (s.modPair q f).benchAddress = s.benchAddress := rfl
@[simp] theorem State.modPair_bus (q : Fin 4) (f : Pair → Pair) : (s.modPair q f).bus = s.bus := rfl
@[simp] theorem State.modPair_rdo (q : Fin 4) (f : Pair → Pair) : (s.modPair q f).rdo = s.rdo := rfl
@[simp] theorem State.modPair_benchLine (q : Fin 4) (f : Pair → Pair) : (s.modPair q f).benchLine = s.benchLine := rfl
@[simp] theorem State.modPair_pins (q : Fin 4) (f : Pair → Pair) : (s.modPair q f).pins = s.pins := rfl
@[simp] theorem State.modPair_freeUsed (q : Fin 4) (f : Pair → Pair) : (s.modPair q f).freeUsed = s.freeUsed := rfl
@[simp] theorem State.modPair_pending (q : Fin 4) (f : Pair → Pair) : (s.modPair q f).pending = s.pending := rfl

/-! ## State.modProfile -/

@[simp] theorem State.modProfile_slots (q : Fin 16) (f : Profile → Profile) : (s.modProfile q f).slots = s.slots := rfl
@[simp] theorem State.modProfile_channels (q : Fin 16) (f : Profile → Profile) : (s.modProfile q f).channels = s.channels := rfl
@[simp] theorem State.modProfile_pairs (q : Fin 16) (f : Profile → Profile) : (s.modProfile q f).pairs = s.pairs := rfl
@[simp] theorem State.modProfile_sdiv (q : Fin 16) (f : Profile → Profile) : (s.modProfile q f).sdiv = s.sdiv := rfl
@[simp] theorem State.modProfile_programCount (q : Fin 16) (f : Profile → Profile) : (s.modProfile q f).programCount = s.programCount := rfl
@[simp] theorem State.modProfile_programming (q : Fin 16) (f : Profile → Profile) : (s.modProfile q f).programming = s.programming := rfl
@[simp] theorem State.modProfile_holdSetting (q : Fin 16) (f : Profile → Profile) : (s.modProfile q f).holdSetting = s.holdSetting := rfl
@[simp] theorem State.modProfile_partFaults (q : Fin 16) (f : Profile → Profile) : (s.modProfile q f).partFaults = s.partFaults := rfl
@[simp] theorem State.modProfile_rackMask (q : Fin 16) (f : Profile → Profile) : (s.modProfile q f).rackMask = s.rackMask := rfl
@[simp] theorem State.modProfile_benchMask (q : Fin 16) (f : Profile → Profile) : (s.modProfile q f).benchMask = s.benchMask := rfl
@[simp] theorem State.modProfile_resetCause (q : Fin 16) (f : Profile → Profile) : (s.modProfile q f).resetCause = s.resetCause := rfl
@[simp] theorem State.modProfile_heat (q : Fin 16) (f : Profile → Profile) : (s.modProfile q f).heat = s.heat := rfl
@[simp] theorem State.modProfile_supplyLow (q : Fin 16) (f : Profile → Profile) : (s.modProfile q f).supplyLow = s.supplyLow := rfl
@[simp] theorem State.modProfile_rack (q : Fin 16) (f : Profile → Profile) : (s.modProfile q f).rack = s.rack := rfl
@[simp] theorem State.modProfile_bench (q : Fin 16) (f : Profile → Profile) : (s.modProfile q f).bench = s.bench := rfl
@[simp] theorem State.modProfile_holderByte (q : Fin 16) (f : Profile → Profile) : (s.modProfile q f).holderByte = s.holderByte := rfl
@[simp] theorem State.modProfile_benchAddress (q : Fin 16) (f : Profile → Profile) : (s.modProfile q f).benchAddress = s.benchAddress := rfl
@[simp] theorem State.modProfile_bus (q : Fin 16) (f : Profile → Profile) : (s.modProfile q f).bus = s.bus := rfl
@[simp] theorem State.modProfile_rdo (q : Fin 16) (f : Profile → Profile) : (s.modProfile q f).rdo = s.rdo := rfl
@[simp] theorem State.modProfile_benchLine (q : Fin 16) (f : Profile → Profile) : (s.modProfile q f).benchLine = s.benchLine := rfl
@[simp] theorem State.modProfile_pins (q : Fin 16) (f : Profile → Profile) : (s.modProfile q f).pins = s.pins := rfl
@[simp] theorem State.modProfile_freeUsed (q : Fin 16) (f : Profile → Profile) : (s.modProfile q f).freeUsed = s.freeUsed := rfl
@[simp] theorem State.modProfile_pending (q : Fin 16) (f : Profile → Profile) : (s.modProfile q f).pending = s.pending := rfl

/-! ## State.modPort -/

@[simp] theorem State.modPort_slots (p : Party) (f : Port → Port) : (s.modPort p f).slots = s.slots := by cases p <;> rfl
@[simp] theorem State.modPort_channels (p : Party) (f : Port → Port) : (s.modPort p f).channels = s.channels := by cases p <;> rfl
@[simp] theorem State.modPort_pairs (p : Party) (f : Port → Port) : (s.modPort p f).pairs = s.pairs := by cases p <;> rfl
@[simp] theorem State.modPort_profiles (p : Party) (f : Port → Port) : (s.modPort p f).profiles = s.profiles := by cases p <;> rfl
@[simp] theorem State.modPort_sdiv (p : Party) (f : Port → Port) : (s.modPort p f).sdiv = s.sdiv := by cases p <;> rfl
@[simp] theorem State.modPort_programCount (p : Party) (f : Port → Port) : (s.modPort p f).programCount = s.programCount := by cases p <;> rfl
@[simp] theorem State.modPort_programming (p : Party) (f : Port → Port) : (s.modPort p f).programming = s.programming := by cases p <;> rfl
@[simp] theorem State.modPort_holdSetting (p : Party) (f : Port → Port) : (s.modPort p f).holdSetting = s.holdSetting := by cases p <;> rfl
@[simp] theorem State.modPort_partFaults (p : Party) (f : Port → Port) : (s.modPort p f).partFaults = s.partFaults := by cases p <;> rfl
@[simp] theorem State.modPort_rackMask (p : Party) (f : Port → Port) : (s.modPort p f).rackMask = s.rackMask := by cases p <;> rfl
@[simp] theorem State.modPort_benchMask (p : Party) (f : Port → Port) : (s.modPort p f).benchMask = s.benchMask := by cases p <;> rfl
@[simp] theorem State.modPort_resetCause (p : Party) (f : Port → Port) : (s.modPort p f).resetCause = s.resetCause := by cases p <;> rfl
@[simp] theorem State.modPort_heat (p : Party) (f : Port → Port) : (s.modPort p f).heat = s.heat := by cases p <;> rfl
@[simp] theorem State.modPort_supplyLow (p : Party) (f : Port → Port) : (s.modPort p f).supplyLow = s.supplyLow := by cases p <;> rfl
@[simp] theorem State.modPort_holderByte (p : Party) (f : Port → Port) : (s.modPort p f).holderByte = s.holderByte := by cases p <;> rfl
@[simp] theorem State.modPort_benchAddress (p : Party) (f : Port → Port) : (s.modPort p f).benchAddress = s.benchAddress := by cases p <;> rfl
@[simp] theorem State.modPort_bus (p : Party) (f : Port → Port) : (s.modPort p f).bus = s.bus := by cases p <;> rfl
@[simp] theorem State.modPort_rdo (p : Party) (f : Port → Port) : (s.modPort p f).rdo = s.rdo := by cases p <;> rfl
@[simp] theorem State.modPort_benchLine (p : Party) (f : Port → Port) : (s.modPort p f).benchLine = s.benchLine := by cases p <;> rfl
@[simp] theorem State.modPort_pins (p : Party) (f : Port → Port) : (s.modPort p f).pins = s.pins := by cases p <;> rfl
@[simp] theorem State.modPort_freeUsed (p : Party) (f : Port → Port) : (s.modPort p f).freeUsed = s.freeUsed := by cases p <;> rfl
@[simp] theorem State.modPort_pending (p : Party) (f : Port → Port) : (s.modPort p f).pending = s.pending := by cases p <;> rfl

/-! ## The reading functions after an update -/

@[simp] theorem State.slot_modSlot_self (i : Fin 8) (f : Slot → Slot) : (s.modSlot i f).slot i = f (s.slot i) := by
  simp [State.modSlot, State.slot]

theorem State.slot_modSlot_ne {i j : Fin 8} (f : Slot → Slot) (h : j ≠ i) : (s.modSlot i f).slot j = s.slot j := by
  have h' : i.val ≠ j.val := fun e => h (Fin.ext e.symm)
  simp [State.modSlot, State.slot, h']

theorem State.slot_modSlot (i j : Fin 8) (f : Slot → Slot) :
    (s.modSlot i f).slot j = if j = i then f (s.slot i) else s.slot j := by
  split
  · subst_vars; simp
  · exact s.slot_modSlot_ne f ‹_›

@[simp] theorem State.channel_modChannel_self (i : Fin 8) (f : Channel → Channel) :
    (s.modChannel i f).channel i = f (s.channel i) := by
  simp [State.modChannel, State.channel]

theorem State.channel_modChannel_ne {i j : Fin 8} (f : Channel → Channel) (h : j ≠ i) :
    (s.modChannel i f).channel j = s.channel j := by
  have h' : i.val ≠ j.val := fun e => h (Fin.ext e.symm)
  simp [State.modChannel, State.channel, h']

theorem State.channel_modChannel (i j : Fin 8) (f : Channel → Channel) :
    (s.modChannel i f).channel j = if j = i then f (s.channel i) else s.channel j := by
  split
  · subst_vars; simp
  · exact s.channel_modChannel_ne f ‹_›

@[simp] theorem State.pair_modPair_self (q : Fin 4) (f : Pair → Pair) : (s.modPair q f).pair q = f (s.pair q) := by
  simp [State.modPair, State.pair]

theorem State.pair_modPair_ne {q r : Fin 4} (f : Pair → Pair) (h : r ≠ q) : (s.modPair q f).pair r = s.pair r := by
  have h' : q.val ≠ r.val := fun e => h (Fin.ext e.symm)
  simp [State.modPair, State.pair, h']

theorem State.pair_modPair (q r : Fin 4) (f : Pair → Pair) :
    (s.modPair q f).pair r = if r = q then f (s.pair q) else s.pair r := by
  split
  · subst_vars; simp
  · exact s.pair_modPair_ne f ‹_›

@[simp] theorem State.profile_modProfile_self (q : Fin 16) (f : Profile → Profile) :
    (s.modProfile q f).profile q = f (s.profile q) := by
  simp [State.modProfile, State.profile]

theorem State.profile_modProfile_ne {q r : Fin 16} (f : Profile → Profile) (h : r ≠ q) :
    (s.modProfile q f).profile r = s.profile r := by
  have h' : q.val ≠ r.val := fun e => h (Fin.ext e.symm)
  simp [State.modProfile, State.profile, h']

theorem State.profile_modProfile (q r : Fin 16) (f : Profile → Profile) :
    (s.modProfile q f).profile r = if r = q then f (s.profile q) else s.profile r := by
  split
  · subst_vars; simp
  · exact s.profile_modProfile_ne f ‹_›

@[simp] theorem State.port_modPort_self (p : Party) (f : Port → Port) : (s.modPort p f).port p = f (s.port p) := by
  cases p <;> rfl

theorem State.port_modPort_ne {p q : Party} (f : Port → Port) (h : q ≠ p) : (s.modPort p f).port q = s.port q := by
  cases p <;> cases q <;> first | rfl | exact absurd rfl h

@[simp] theorem State.slot_modChannel (i : Fin 8) (f : Channel → Channel) (j : Fin 8) : (s.modChannel i f).slot j = s.slot j := rfl
@[simp] theorem State.slot_modPair (q : Fin 4) (f : Pair → Pair) (j : Fin 8) : (s.modPair q f).slot j = s.slot j := rfl
@[simp] theorem State.slot_modProfile (q : Fin 16) (f : Profile → Profile) (j : Fin 8) : (s.modProfile q f).slot j = s.slot j := rfl
@[simp] theorem State.slot_modPort (p : Party) (f : Port → Port) (j : Fin 8) : (s.modPort p f).slot j = s.slot j := by
  cases p <;> rfl
@[simp] theorem State.channel_modSlot (i : Fin 8) (f : Slot → Slot) (j : Fin 8) : (s.modSlot i f).channel j = s.channel j := rfl
@[simp] theorem State.channel_modPair (q : Fin 4) (f : Pair → Pair) (j : Fin 8) : (s.modPair q f).channel j = s.channel j := rfl
@[simp] theorem State.channel_modProfile (q : Fin 16) (f : Profile → Profile) (j : Fin 8) : (s.modProfile q f).channel j = s.channel j := rfl
@[simp] theorem State.channel_modPort (p : Party) (f : Port → Port) (j : Fin 8) : (s.modPort p f).channel j = s.channel j := by
  cases p <;> rfl
@[simp] theorem State.pair_modSlot (i : Fin 8) (f : Slot → Slot) (j : Fin 4) : (s.modSlot i f).pair j = s.pair j := rfl
@[simp] theorem State.pair_modChannel (i : Fin 8) (f : Channel → Channel) (j : Fin 4) : (s.modChannel i f).pair j = s.pair j := rfl
@[simp] theorem State.pair_modProfile (q : Fin 16) (f : Profile → Profile) (j : Fin 4) : (s.modProfile q f).pair j = s.pair j := rfl
@[simp] theorem State.pair_modPort (p : Party) (f : Port → Port) (j : Fin 4) : (s.modPort p f).pair j = s.pair j := by
  cases p <;> rfl
@[simp] theorem State.profile_modSlot (i : Fin 8) (f : Slot → Slot) (j : Fin 16) : (s.modSlot i f).profile j = s.profile j := rfl
@[simp] theorem State.profile_modChannel (i : Fin 8) (f : Channel → Channel) (j : Fin 16) : (s.modChannel i f).profile j = s.profile j := rfl
@[simp] theorem State.profile_modPair (q : Fin 4) (f : Pair → Pair) (j : Fin 16) : (s.modPair q f).profile j = s.profile j := rfl
@[simp] theorem State.profile_modPort (p : Party) (f : Port → Port) (j : Fin 16) : (s.modPort p f).profile j = s.profile j := by
  cases p <;> rfl
@[simp] theorem State.port_modSlot (i : Fin 8) (f : Slot → Slot) (j : Party) : (s.modSlot i f).port j = s.port j := by cases j <;> rfl
@[simp] theorem State.port_modChannel (i : Fin 8) (f : Channel → Channel) (j : Party) : (s.modChannel i f).port j = s.port j := by cases j <;> rfl
@[simp] theorem State.port_modPair (q : Fin 4) (f : Pair → Pair) (j : Party) : (s.modPair q f).port j = s.port j := by cases j <;> rfl
@[simp] theorem State.port_modProfile (q : Fin 16) (f : Profile → Profile) (j : Party) : (s.modProfile q f).port j = s.port j := by cases j <;> rfl

/-! ## Derived readings that an update of slots, channels or profiles leaves -/

@[simp] theorem State.modSlot_held (i : Fin 8) (f : Slot → Slot) : (s.modSlot i f).held = s.held := rfl
@[simp] theorem State.modChannel_held (i : Fin 8) (f : Channel → Channel) : (s.modChannel i f).held = s.held := rfl
@[simp] theorem State.modPair_held (q : Fin 4) (f : Pair → Pair) : (s.modPair q f).held = s.held := rfl
@[simp] theorem State.modProfile_held (q : Fin 16) (f : Profile → Profile) : (s.modProfile q f).held = s.held := rfl
@[simp] theorem State.modSlot_shelfHold (i : Fin 8) (f : Slot → Slot) : (s.modSlot i f).shelfHold = s.shelfHold := rfl
@[simp] theorem State.modChannel_shelfHold (i : Fin 8) (f : Channel → Channel) : (s.modChannel i f).shelfHold = s.shelfHold := rfl
@[simp] theorem State.modPair_shelfHold (q : Fin 4) (f : Pair → Pair) : (s.modPair q f).shelfHold = s.shelfHold := rfl
@[simp] theorem State.modProfile_shelfHold (q : Fin 16) (f : Profile → Profile) : (s.modProfile q f).shelfHold = s.shelfHold := rfl
@[simp] theorem State.modSlot_trimBusy (i : Fin 8) (f : Slot → Slot) : (s.modSlot i f).trimBusy = s.trimBusy := rfl
@[simp] theorem State.modChannel_trimBusy (i : Fin 8) (f : Channel → Channel) : (s.modChannel i f).trimBusy = s.trimBusy := rfl
@[simp] theorem State.modPair_trimBusy (q : Fin 4) (f : Pair → Pair) : (s.modPair q f).trimBusy = s.trimBusy := rfl
@[simp] theorem State.modProfile_trimBusy (q : Fin 16) (f : Profile → Profile) : (s.modProfile q f).trimBusy = s.trimBusy := rfl
@[simp] theorem State.modSlot_holdFull (i : Fin 8) (f : Slot → Slot) : (s.modSlot i f).holdFull = s.holdFull := rfl
@[simp] theorem State.modChannel_holdFull (i : Fin 8) (f : Channel → Channel) : (s.modChannel i f).holdFull = s.holdFull := rfl
@[simp] theorem State.modPair_holdFull (q : Fin 4) (f : Pair → Pair) : (s.modPair q f).holdFull = s.holdFull := rfl
@[simp] theorem State.modProfile_holdFull (q : Fin 16) (f : Profile → Profile) : (s.modProfile q f).holdFull = s.holdFull := rfl
@[simp] theorem State.modSlot_mode (i : Fin 8) (f : Slot → Slot) (j : Fin 8) : (s.modSlot i f).mode j = s.mode j := rfl
@[simp] theorem State.modSlot_isPaired (i : Fin 8) (f : Slot → Slot) (j : Fin 8) : (s.modSlot i f).isPaired j = s.isPaired j := rfl
@[simp] theorem State.modSlot_upperPaired (i : Fin 8) (f : Slot → Slot) (j : Fin 8) : (s.modSlot i f).upperPaired j = s.upperPaired j := rfl
@[simp] theorem State.modSlot_lowerPaired (i : Fin 8) (f : Slot → Slot) (j : Fin 8) : (s.modSlot i f).lowerPaired j = s.lowerPaired j := rfl
@[simp] theorem State.modSlot_governor (i : Fin 8) (f : Slot → Slot) (j : Fin 8) : (s.modSlot i f).governor j = s.governor j := rfl
@[simp] theorem State.modChannel_mode (i : Fin 8) (f : Channel → Channel) (j : Fin 8) : (s.modChannel i f).mode j = s.mode j := rfl
@[simp] theorem State.modChannel_isPaired (i : Fin 8) (f : Channel → Channel) (j : Fin 8) : (s.modChannel i f).isPaired j = s.isPaired j := rfl
@[simp] theorem State.modChannel_upperPaired (i : Fin 8) (f : Channel → Channel) (j : Fin 8) : (s.modChannel i f).upperPaired j = s.upperPaired j := rfl
@[simp] theorem State.modChannel_lowerPaired (i : Fin 8) (f : Channel → Channel) (j : Fin 8) : (s.modChannel i f).lowerPaired j = s.lowerPaired j := rfl
@[simp] theorem State.modChannel_governor (i : Fin 8) (f : Channel → Channel) (j : Fin 8) : (s.modChannel i f).governor j = s.governor j := rfl
@[simp] theorem State.modProfile_mode (q : Fin 16) (f : Profile → Profile) (j : Fin 8) : (s.modProfile q f).mode j = s.mode j := rfl
@[simp] theorem State.modProfile_isPaired (q : Fin 16) (f : Profile → Profile) (j : Fin 8) : (s.modProfile q f).isPaired j = s.isPaired j := rfl
@[simp] theorem State.modProfile_upperPaired (q : Fin 16) (f : Profile → Profile) (j : Fin 8) : (s.modProfile q f).upperPaired j = s.upperPaired j := rfl
@[simp] theorem State.modProfile_lowerPaired (q : Fin 16) (f : Profile → Profile) (j : Fin 8) : (s.modProfile q f).lowerPaired j = s.lowerPaired j := rfl
@[simp] theorem State.modProfile_governor (q : Fin 16) (f : Profile → Profile) (j : Fin 8) : (s.modProfile q f).governor j = s.governor j := rfl

/-! ## The updates of a context and a slot -/

@[simp] theorem Context.enter_bound (c : Context) (st : SlotState) (t : Option Timer) (x : Option DrainNext) :
    (c.enter st t x).bound = c.bound := rfl
@[simp] theorem Context.enter_d (c : Context) (st : SlotState) (t : Option Timer) (x : Option DrainNext) :
    (c.enter st t x).d = c.d := rfl
@[simp] theorem Context.enter_k (c : Context) (st : SlotState) (t : Option Timer) (x : Option DrainNext) :
    (c.enter st t x).k = c.k := rfl
@[simp] theorem Context.enter_checker (c : Context) (st : SlotState) (t : Option Timer) (x : Option DrainNext) :
    (c.enter st t x).checker = c.checker := rfl
@[simp] theorem Context.enter_n (c : Context) (st : SlotState) (t : Option Timer) (x : Option DrainNext) :
    (c.enter st t x).n = c.n := rfl
@[simp] theorem Context.enter_sum (c : Context) (st : SlotState) (t : Option Timer) (x : Option DrainNext) :
    (c.enter st t x).sum = c.sum := rfl
@[simp] theorem Context.enter_peak (c : Context) (st : SlotState) (t : Option Timer) (x : Option DrainNext) :
    (c.enter st t x).peak = c.peak := rfl
@[simp] theorem Context.enter_latest (c : Context) (st : SlotState) (t : Option Timer) (x : Option DrainNext) :
    (c.enter st t x).latest = c.latest := rfl
@[simp] theorem Context.enter_previous (c : Context) (st : SlotState) (t : Option Timer) (x : Option DrainNext) :
    (c.enter st t x).previous = c.previous := rfl
@[simp] theorem Context.enter_baseline (c : Context) (st : SlotState) (t : Option Timer) (x : Option DrainNext) :
    (c.enter st t x).baseline = c.baseline := rfl
@[simp] theorem Context.enter_conv (c : Context) (st : SlotState) (t : Option Timer) (x : Option DrainNext) :
    (c.enter st t x).conv = c.conv := rfl
@[simp] theorem Context.enter_openReported (c : Context) (st : SlotState) (t : Option Timer) (x : Option DrainNext) :
    (c.enter st t x).openReported = c.openReported := rfl
@[simp] theorem Context.enter_state (c : Context) (st : SlotState) (t : Option Timer) (x : Option DrainNext) :
    (c.enter st t x).state = st := rfl
@[simp] theorem Context.enter_timer (c : Context) (st : SlotState) (t : Option Timer) (x : Option DrainNext) :
    (c.enter st t x).timer = t := rfl
@[simp] theorem Context.enter_drainNext (c : Context) (st : SlotState) (t : Option Timer) (x : Option DrainNext) :
    (c.enter st t x).drainNext = x := rfl
@[simp] theorem Context.enter_subPhase (c : Context) (st : SlotState) (t : Option Timer) (x : Option DrainNext) :
    (c.enter st t x).subPhase = none := rfl
@[simp] theorem Slot.enter_parked (sl : Slot) (st : SlotState) (t : Option Timer) (x : Option DrainNext) :
    (sl.enter st t x).parked = sl.parked := rfl
@[simp] theorem Slot.enter_holder (sl : Slot) (st : SlotState) (t : Option Timer) (x : Option DrainNext) :
    (sl.enter st t x).holder = sl.holder := rfl
@[simp] theorem Slot.enter_holdTimer (sl : Slot) (st : SlotState) (t : Option Timer) (x : Option DrainNext) :
    (sl.enter st t x).holdTimer = sl.holdTimer := rfl
@[simp] theorem Slot.enter_stack (sl : Slot) (st : SlotState) (t : Option Timer) (x : Option DrainNext) :
    (sl.enter st t x).stack = sl.stack := rfl
@[simp] theorem Slot.enter_top (sl : Slot) (st : SlotState) (t : Option Timer) (x : Option DrainNext) :
    (sl.enter st t x).top = sl.top := rfl
@[simp] theorem Slot.enter_withheld (sl : Slot) (st : SlotState) (t : Option Timer) (x : Option DrainNext) :
    (sl.enter st t x).withheld = sl.withheld := rfl
@[simp] theorem Slot.enter_faults (sl : Slot) (st : SlotState) (t : Option Timer) (x : Option DrainNext) :
    (sl.enter st t x).faults = sl.faults := rfl
@[simp] theorem Slot.enter_openCount (sl : Slot) (st : SlotState) (t : Option Timer) (x : Option DrainNext) :
    (sl.enter st t x).openCount = sl.openCount := rfl
@[simp] theorem Slot.enter_active (sl : Slot) (st : SlotState) (t : Option Timer) (x : Option DrainNext) :
    (sl.enter st t x).active = sl.active.enter st t x := rfl

end Sys2Proof.Machine
end

