-- ==== Sys2Proof/Laws/Ops.lean ====
section
/-!
SUPPORT. What each shared operation can do, said once: a later proof cites the lemma and does not unfold the operation.
-/

namespace Sys2Proof.Machine

/-! ## Numbering -/

@[simp] theorem slotOf_slotField (i : Fin 8) : slotOf (slotField i) = some i := by revert i; decide

@[simp] theorem slotOf_argField (i : Fin 8) : slotOf (argField i) = some i := by revert i; decide

@[simp] theorem pairTarget_pairField (q : Fin 4) : pairTarget (pairField q) = some q := by revert q; decide

@[simp] theorem modeOf_code (m : PairMode) : modeOf (argField m.code) = some m := by cases m <;> decide

theorem slotOf_none {t : Nibble} : slotOf t = none ↔ 8 ≤ t.toNat := by revert t; decide

@[simp] theorem isPart_iff (t : Nibble) : isPart t = true ↔ t = 15 := by revert t; decide

@[simp] theorem pairOf_lowerOf (q : Fin 4) : pairOf (lowerOf q) = q := by revert q; decide

@[simp] theorem pairOf_upperOf (q : Fin 4) : pairOf (upperOf q) = q := by revert q; decide

@[simp] theorem isUpper_upperOf (q : Fin 4) : isUpper (upperOf q) = true := by revert q; decide

@[simp] theorem isUpper_lowerOf (q : Fin 4) : isUpper (lowerOf q) = false := by revert q; decide

theorem lowerOf_ne_upperOf (q r : Fin 4) : lowerOf q ≠ upperOf r := by revert q r; decide

theorem eq_lowerOf_of_not_upper {i : Fin 8} (h : isUpper i = false) : lowerOf (pairOf i) = i := by
  revert i; decide

theorem eq_upperOf_of_upper {i : Fin 8} (h : isUpper i = true) : upperOf (pairOf i) = i := by revert i; decide

/-- A slot is the lower or the upper of its pair. -/
theorem slot_of_pair (i : Fin 8) : i = lowerOf (pairOf i) ∨ i = upperOf (pairOf i) := by revert i; decide

/-- The slot that governs a slot not standing aside is itself. -/
theorem State.governor_of_not_upperPaired {s : State} {i : Fin 8} (h : s.upperPaired i = false) : s.governor i = i := by
  unfold State.governor
  split
  · exact eq_lowerOf_of_not_upper (by simpa [State.upperPaired, ‹s.isPaired i = true›] using h)
  · rfl

@[simp] theorem Cmd.ofCode_code (c : Cmd) : Cmd.ofCode c.code = some c := by cases c <;> rfl

/-- Two commands have different codes. -/
theorem Cmd.code_injective {c d : Cmd} (h : c.code = d.code) : c = d := by
  have := congrArg Cmd.ofCode h
  simpa using this

/-! ## Taking commands -/

/-- On a part that is not held a meaning is its effect. -/
theorem State.live_of_not_held {s : State} (f : State → State) (h : s.held = false) : s.live f = .next (f s) := by
  simp [State.live, h]

/-- A held part takes nothing (R183). -/
theorem State.live_of_held {s : State} (f : State → State) (h : s.held = true) : s.live f = .next s := by
  simp [State.live, h]

/-- A command on a part that is not held answers with what its block reports. -/
theorem State.command_of_not_held {s : State} (p : Party) (c : Cmd) (target : Nibble) (act : State → State × Reply)
    (h : s.held = false) :
    s.command p c target act = .next ((act s).1.answer p c.code target (act s).2) :=
  State.live_of_not_held _ h

/-- A read that names a slot: the hold timer's restart, then the report (R150). -/
theorem State.onAnySlot_slot (s : State) (p : Party) (i : Fin 8) (report : Fin 8 → State → Reply) :
    s.onAnySlot p (slotField i) report = (s.restartHold p i, report i (s.restartHold p i)) := by
  simp [State.onAnySlot]

/-- The acceptance of a command that changes a slot: refused BAD-ARG, PAIRED or NOT-HOLDER with the part as it was, or carried
out after the hold timer's restart (R3, R137, R145, R150). -/
theorem State.onHeldSlot_cases (s : State) (p : Party) (target : Nibble) (act : Fin 8 → State → State × Reply) :
    (8 ≤ target.toNat ∧ s.onHeldSlot p target act = (s, Reply.bare .badArg))
    ∨ ∃ i, slotOf target = some i
      ∧ ((s.upperPaired i = true ∧ s.onHeldSlot p target act = (s, Reply.bare .paired))
        ∨ (s.upperPaired i = false ∧ (s.slot i).holder ≠ p ∧ s.onHeldSlot p target act = (s, Reply.bare .notHolder))
        ∨ (s.upperPaired i = false ∧ (s.slot i).holder = p
            ∧ s.onHeldSlot p target act = act i (s.restartHold p i))) := by
  cases h : slotOf target with
  | none => exact .inl ⟨slotOf_none.mp h, by simp [State.onHeldSlot, h, State.refuse]⟩
  | some i =>
    refine .inr ⟨i, rfl, ?_⟩
    cases hu : s.upperPaired i with
    | true => simp [State.onHeldSlot, h, hu, State.refuse]
    | false =>
      by_cases hp : (s.slot i).holder = p
      · simp [State.onHeldSlot, h, hu, hp]
      · simp [State.onHeldSlot, h, hu, hp, State.refuse]

/-- A holder's command reaches its slot. -/
theorem State.onHeldSlot_reaches {s : State} {p : Party} {i : Fin 8} (act : Fin 8 → State → State × Reply)
    (h : s.Reaches p i) : s.onHeldSlot p (slotField i) act = act i (s.restartHold p i) := by
  obtain ⟨_, hu, hp⟩ := h
  simp [State.onHeldSlot, hu, hp]

/-- The acceptance of a part-wide command (R38). -/
theorem State.partWide_cases (s : State) (p : Party) (act : State → State × Reply) :
    (s.holdsAll p = false ∧ s.partWide p act = (s, Reply.bare .notPermitted))
    ∨ (s.holdsAll p = true ∧ (s.trimBusy = true ∨ s.atRest = false) ∧ s.partWide p act = (s, Reply.bare .busy))
    ∨ (s.holdsAll p = true ∧ s.trimBusy = false ∧ s.atRest = true ∧ s.partWide p act = act s) := by
  unfold State.partWide State.refuse
  cases s.holdsAll p <;> cases s.trimBusy <;> cases s.atRest <;> simp

/-- A party holds the whole part when it holds every slot (R160). -/
theorem State.holdsAll_iff (s : State) (p : Party) : s.holdsAll p = true ↔ ∀ i, (s.slot i).holder = p := by
  simp only [State.holdsAll, List.all_eq_true, decide_eq_true_eq, State.slot]
  constructor
  · intro h i
    exact h _ (by simp)
  · intro h sl hsl
    obtain ⟨k, hk, rfl⟩ := List.mem_iff_getElem.mp hsl
    have := h ⟨k, by simpa using hk⟩
    simpa using this

/-! ## Replies -/

/-- What an answer leaves: everything but the issuer's port and, for the bench, the place in its read transaction. -/
theorem State.answer_eq (s : State) (p : Party) (code : Byte) (target : Nibble) (r : Reply) :
    s.answer p code target r =
      { (s.modPort p fun port =>
          { port with
            replies := statusWord r.status code target r.words.length :: r.words, prevStatus := some r.status }) with
        bus := if p = .bench then s.bus.queueEmptied else s.bus } := by
  cases p
  · rfl
  · cases h : s.bus <;> simp [State.answer, State.modPort, Bus.queueEmptied, h]

@[simp] theorem State.slot_answer (s : State) (p : Party) (code : Byte) (t : Nibble) (r : Reply) (i : Fin 8) :
    (s.answer p code t r).slot i = s.slot i := by
  rw [State.answer_eq]; cases p <;> rfl

@[simp] theorem State.channel_answer (s : State) (p : Party) (code : Byte) (t : Nibble) (r : Reply) (i : Fin 8) :
    (s.answer p code t r).channel i = s.channel i := by
  rw [State.answer_eq]; cases p <;> rfl

@[simp] theorem State.pair_answer (s : State) (p : Party) (code : Byte) (t : Nibble) (r : Reply) (q : Fin 4) :
    (s.answer p code t r).pair q = s.pair q := by
  rw [State.answer_eq]; cases p <;> rfl

@[simp] theorem State.profile_answer (s : State) (p : Party) (code : Byte) (t : Nibble) (r : Reply) (q : Fin 16) :
    (s.answer p code t r).profile q = s.profile q := by
  rw [State.answer_eq]; cases p <;> rfl

@[simp] theorem State.port_answer_self (s : State) (p : Party) (code : Byte) (t : Nibble) (r : Reply) :
    (s.answer p code t r).port p =
      { s.port p with replies := statusWord r.status code t r.words.length :: r.words, prevStatus := some r.status } := by
  rw [State.answer_eq]; cases p <;> rfl

@[simp] theorem State.port_answer_other (s : State) (p : Party) (code : Byte) (t : Nibble) (r : Reply) :
    (s.answer p code t r).port (otherParty p) = s.port (otherParty p) := by
  rw [State.answer_eq]; cases p <;> rfl

@[simp] theorem State.bus_answer (s : State) (p : Party) (code : Byte) (t : Nibble) (r : Reply) :
    (s.answer p code t r).bus = if p = .bench then s.bus.queueEmptied else s.bus := by
  rw [State.answer_eq]

/-- An answer changes the two ports and the bus at most. -/
theorem State.onlyPorts_answer (s : State) (p : Party) (code : Byte) (t : Nibble) (r : Reply) :
    s.OnlyPorts (s.answer p code t r) := by
  rw [State.answer_eq]; cases p <;> rfl

/-! ## Holders and bindings -/

/-- The restart of a hold timer: the governing slot's, where the bench holds it and the command is the bench's (R150). -/
theorem State.slot_restartHold (s : State) (p : Party) (i j : Fin 8) :
    (s.restartHold p i).slot j = { s.slot j with holdTimer := s.readHold p i j } := by
  unfold State.restartHold State.readHold
  by_cases hp : p = .bench <;> by_cases hh : (s.slot (s.governor i)).holder = .bench <;>
    by_cases hj : j = s.governor i
  · subst hj; simp [hp, hh]
  · simp [hp, hh, hj, State.slot_modSlot]
  · subst hj; simp [hp, hh]
  all_goals first | simp [hp]; done | simp [hp, hh, hj]

/-- It changes no more. -/
theorem State.restartHold_frame (s : State) (p : Party) (i : Fin 8) :
    s.restartHold p i = { s with slots := (s.restartHold p i).slots } := by
  unfold State.restartHold
  split <;> rfl

/-- A slot gives up its binding: the use count of the profile it was bound to falls (R53). -/
theorem State.profile_releaseBinding (s : State) (i : Fin 8) : s.ReleasesBinding i (s.releaseBinding i) := by
  intro q
  unfold State.releaseBinding
  cases h : (s.slot i).active.bound with
  | none => simp
  | some p =>
    simp only [Option.some.injEq]
    by_cases hq : q = p
    · subst hq; simp
    · simp [State.profile_modProfile, hq, Ne.symm hq]

theorem State.slot_releaseBinding (s : State) (i j : Fin 8) :
    (s.releaseBinding i).slot j =
      if j = i then { s.slot i with active := { (s.slot i).active with bound := none } } else s.slot j := by
  unfold State.releaseBinding
  cases h : (s.slot i).active.bound with
  | none =>
    by_cases hj : j = i
    · subst hj; simp [← h]
    · simp [hj]
  | some p => simp [State.slot_modSlot]

theorem State.releaseBinding_frame (s : State) (i : Fin 8) :
    s.releaseBinding i =
      { s with slots := (s.releaseBinding i).slots, profiles := (s.releaseBinding i).profiles } := by
  unfold State.releaseBinding
  split <;> rfl

/-- A holder's change reaches the upper slot of a paired pair (R137). -/
theorem State.slot_setHolder (s : State) (i j : Fin 8) (p : Party) :
    (s.setHolder i p).slot j =
      { s.slot j with
        holder := if j = i ∨ (s.lowerPaired i = true ∧ j = upperOf (pairOf i)) then p else (s.slot j).holder } := by
  unfold State.setHolder
  by_cases hl : s.lowerPaired i = true <;> by_cases hj : j = i <;> by_cases hu : j = upperOf (pairOf i) <;>
    simp_all [State.slot_modSlot]

theorem State.setHolder_frame (s : State) (i : Fin 8) (p : Party) :
    s.setHolder i p = { s with slots := (s.setHolder i p).slots } := by
  unfold State.setHolder
  dsimp only
  split <;> rfl

/-! ## Trip counts, rails, every slot in turn -/

/-- The trip counts of the channels a slot not standing aside governs become 0 (R121). -/
theorem State.channel_clearTrips {s : State} {i : Fin 8} (h : s.upperPaired i = false) (c : Fin 8) :
    (s.clearTrips i).channel c =
      { s.channel c with tripCount := if s.governor c = i then 0 else (s.channel c).tripCount } := by
  have hg := State.governor_of_not_upperPaired h
  unfold State.clearTrips
  by_cases hp : s.isPaired i = true
  · have hi : lowerOf (pairOf i) = i := eq_lowerOf_of_not_upper (by simpa [State.upperPaired, hp] using h)
    have hmode : ∀ d : Fin 8, pairOf d = pairOf i → s.isPaired d = true := fun d hd => by
      simpa [State.isPaired, State.mode, hd] using hp
    by_cases hc : pairOf c = pairOf i
    · have hgc : s.governor c = i := by simp [State.governor, hmode c hc, hc, hi]
      rcases slot_of_pair c with e | e
      · have e' : c = lowerOf (pairOf i) := by rw [← hc]; exact e
        have hne : lowerOf (pairOf i) ≠ upperOf (pairOf i) := lowerOf_ne_upperOf _ _
        rw [if_pos hgc, e']
        simp [hp, State.channel_modChannel, hne]
      · have e' : c = upperOf (pairOf i) := by rw [← hc]; exact e
        have hne : upperOf (pairOf i) ≠ lowerOf (pairOf i) := (lowerOf_ne_upperOf _ _).symm
        rw [if_pos hgc, e']
        simp [hp, State.channel_modChannel, hne]
    · have hgc : s.governor c ≠ i := by
        unfold State.governor
        split
        · intro e; apply hc; rw [← e]; simp
        · intro e; apply hc; rw [e]
      have h1 : c ≠ lowerOf (pairOf i) := by intro e; apply hc; rw [e]; simp
      have h2 : c ≠ upperOf (pairOf i) := by intro e; apply hc; rw [e]; simp
      simp [hp, hgc, State.channel_modChannel, h1, h2]
  · have hne : ∀ d : Fin 8, s.governor d = i → d = i := by
      intro d hd
      unfold State.governor at hd
      split at hd
      · exfalso
        apply hp
        have hpair : pairOf i = pairOf d := by rw [← hd]; simp
        simpa [State.isPaired, State.mode, hpair] using ‹s.isPaired d = true›
      · exact hd
    by_cases hc : c = i
    · subst hc; simp [hp, hg]
    · have : s.governor c ≠ i := fun e => hc (hne c e)
      simp [hp, hc, this, State.channel_modChannel]

theorem State.clearTrips_frame (s : State) (i : Fin 8) :
    s.clearTrips i = { s with channels := (s.clearTrips i).channels } := by
  unfold State.clearTrips
  split <;> rfl

/-! ## Evidence and faults -/

/-- What a push can do: write at the place before TOP, or lose the record; with STACK raised where that place held a VALID
entry (R105 to R108). -/
theorem Slot.push_cases (sl : Slot) (r : Record) :
    ((sl.stack[sl.pushPosition]).tag = .empty ∧ sl.push r = sl.writePushed r false)
    ∨ ((sl.stack[sl.pushPosition]).tag = .valid ∧ sl.active.conv.policy = .keepNewest
        ∧ sl.push r = (sl.writePushed r true).raise .stack)
    ∨ ((sl.stack[sl.pushPosition]).tag = .valid ∧ sl.active.conv.policy = .keepOldest
        ∧ sl.push r = sl.raise .stack) := by
  unfold Slot.push
  cases (sl.stack[sl.pushPosition]).tag <;> cases sl.active.conv.policy <;> simp

@[simp] theorem Slot.push_active (sl : Slot) (r : Record) : (sl.push r).active = sl.active := by
  rcases sl.push_cases r with ⟨_, e⟩ | ⟨_, _, e⟩ | ⟨_, _, e⟩ <;> rw [e] <;> rfl

@[simp] theorem Slot.push_parked (sl : Slot) (r : Record) : (sl.push r).parked = sl.parked := by
  rcases sl.push_cases r with ⟨_, e⟩ | ⟨_, _, e⟩ | ⟨_, _, e⟩ <;> rw [e] <;> rfl

@[simp] theorem Slot.push_holder (sl : Slot) (r : Record) : (sl.push r).holder = sl.holder := by
  rcases sl.push_cases r with ⟨_, e⟩ | ⟨_, _, e⟩ | ⟨_, _, e⟩ <;> rw [e] <;> rfl

@[simp] theorem Slot.push_holdTimer (sl : Slot) (r : Record) : (sl.push r).holdTimer = sl.holdTimer := by
  rcases sl.push_cases r with ⟨_, e⟩ | ⟨_, _, e⟩ | ⟨_, _, e⟩ <;> rw [e] <;> rfl

@[simp] theorem Slot.push_withheld (sl : Slot) (r : Record) : (sl.push r).withheld = sl.withheld := by
  rcases sl.push_cases r with ⟨_, e⟩ | ⟨_, _, e⟩ | ⟨_, _, e⟩ <;> rw [e] <;> rfl

@[simp] theorem Slot.push_openCount (sl : Slot) (r : Record) : (sl.push r).openCount = sl.openCount := by
  rcases sl.push_cases r with ⟨_, e⟩ | ⟨_, _, e⟩ | ⟨_, _, e⟩ <;> rw [e] <;> rfl

/-- A push does not touch the CONV flag. -/
@[simp] theorem Slot.push_flag_conv (sl : Slot) (r : Record) : (sl.push r).flag .conv = sl.flag .conv := by
  rcases sl.push_cases r with ⟨_, e⟩ | ⟨_, _, e⟩ | ⟨_, _, e⟩ <;> rw [e] <;>
    simp [Slot.flag, Slot.raise, Slot.writePushed, Marks.flag, Marks.raise, SlotFault.bit]

@[simp] theorem Slot.raise_active (sl : Slot) (k : SlotFault) : (sl.raise k).active = sl.active := rfl
@[simp] theorem Slot.raise_parked (sl : Slot) (k : SlotFault) : (sl.raise k).parked = sl.parked := rfl
@[simp] theorem Slot.raise_holder (sl : Slot) (k : SlotFault) : (sl.raise k).holder = sl.holder := rfl
@[simp] theorem Slot.raise_holdTimer (sl : Slot) (k : SlotFault) : (sl.raise k).holdTimer = sl.holdTimer := rfl
@[simp] theorem Slot.raise_stack (sl : Slot) (k : SlotFault) : (sl.raise k).stack = sl.stack := rfl
@[simp] theorem Slot.raise_top (sl : Slot) (k : SlotFault) : (sl.raise k).top = sl.top := rfl
@[simp] theorem Slot.raise_withheld (sl : Slot) (k : SlotFault) : (sl.raise k).withheld = sl.withheld := rfl
@[simp] theorem Slot.raise_openCount (sl : Slot) (k : SlotFault) : (sl.raise k).openCount = sl.openCount := rfl

/-! ## Summaries -/

/-- Where a summary can go (R94, R95, R97). -/
theorem Slot.fileSummary_cases (sl : Slot) (m : Summary) :
    (m.notable = false ∧ sl.fileSummary m = sl)
    ∨ (m.notable = true ∧ m.unmaskedInvalid sl.active.conv = false ∧ sl.fileSummary m = sl.push m.toRecord)
    ∨ (m.notable = true ∧ m.unmaskedInvalid sl.active.conv = true ∧ sl.withheld = none
        ∧ sl.fileSummary m = { sl with withheld := some m }.raise .conv)
    ∨ (m.notable = true ∧ m.unmaskedInvalid sl.active.conv = true ∧ sl.withheld.isSome = true
        ∧ sl.fileSummary m = (sl.push m.toRecord).raise .conv) := by
  unfold Slot.fileSummary
  cases m.notable <;> cases m.unmaskedInvalid sl.active.conv <;> cases sl.withheld <;> simp

/-- The context after its on-phase's summary: Latest and Previous shift, and a first PASS sets the baseline. -/
@[simp] theorem Slot.formSummary_active (sl : Slot) (env : Env) (v : Verdict) (last : Bool) :
    (sl.formSummary env v last).active = sl.active.shiftSummary (summaryOf env sl.holder sl.active v last) := by
  unfold Slot.formSummary Slot.raiseDrift
  dsimp only
  rcases Slot.fileSummary_cases _ (summaryOf env sl.holder sl.active v last) with h | h | h | h
  · rw [h.2]; split <;> rfl
  · rw [h.2.2]; simp; split <;> rfl
  · rw [h.2.2.2]; simp; split <;> rfl
  · rw [h.2.2.2]; simp; split <;> rfl

@[simp] theorem Slot.formSummary_parked (sl : Slot) (env : Env) (v : Verdict) (last : Bool) :
    (sl.formSummary env v last).parked = sl.parked := by
  unfold Slot.formSummary Slot.raiseDrift Slot.fileSummary
  dsimp only
  repeat' split
  all_goals simp

@[simp] theorem Slot.formSummary_holder (sl : Slot) (env : Env) (v : Verdict) (last : Bool) :
    (sl.formSummary env v last).holder = sl.holder := by
  unfold Slot.formSummary Slot.raiseDrift Slot.fileSummary
  dsimp only
  repeat' split
  all_goals simp

@[simp] theorem Slot.formSummary_holdTimer (sl : Slot) (env : Env) (v : Verdict) (last : Bool) :
    (sl.formSummary env v last).holdTimer = sl.holdTimer := by
  unfold Slot.formSummary Slot.raiseDrift Slot.fileSummary
  dsimp only
  repeat' split
  all_goals simp

/-! ## The checker -/

/-- A checker whose walk is over takes no sample (R58). -/
theorem Checker.step_of_over {c : Checker} (h : c.condition = .done ∨ c.condition = .failed) (stages : List Stage)
    (limit current : Nat) : c.step stages limit current = (c, none) := by
  unfold Checker.step
  rcases h with h | h <;> rw [h]

end Sys2Proof.Machine
end

