-- ==== Sys2Proof/Laws/Engine.lean ====
section
/-!
SUPPORT. How far the work of one slot reaches: the slot engine, the protection unit and the hold arbiter at slot `i` change that
slot, channels, pairs and profiles, and nothing else of the part.
-/

namespace Sys2Proof.Machine

/-- Only slot `i`, the channels, the pairs and the profiles may differ. -/
def State.WorksAt (i : Fin 8) (s t : State) : Prop :=
  (∀ j, j ≠ i → t.slot j = s.slot j)
    ∧ t = { s with slots := t.slots, channels := t.channels, pairs := t.pairs, profiles := t.profiles }

theorem State.WorksAt.refl (i : Fin 8) (s : State) : State.WorksAt i s s := ⟨fun _ _ => rfl, rfl⟩

theorem State.WorksAt.trans {i : Fin 8} {s t u : State} (h : State.WorksAt i s t) (h' : State.WorksAt i t u) :
    State.WorksAt i s u := by
  refine ⟨fun j hj => (h'.1 j hj).trans (h.1 j hj), ?_⟩
  have e := h'.2
  rw [h.2] at e
  exact e

theorem State.worksAt_modSlot (i : Fin 8) (s : State) (f : Slot → Slot) : State.WorksAt i s (s.modSlot i f) :=
  ⟨fun _ hj => s.slot_modSlot_ne f hj, rfl⟩

theorem State.worksAt_modChannel (i c : Fin 8) (s : State) (f : Channel → Channel) :
    State.WorksAt i s (s.modChannel c f) := ⟨fun _ _ => rfl, rfl⟩

theorem State.worksAt_modPair (i : Fin 8) (q : Fin 4) (s : State) (f : Pair → Pair) :
    State.WorksAt i s (s.modPair q f) := ⟨fun _ _ => rfl, rfl⟩

theorem State.worksAt_modProfile (i : Fin 8) (q : Fin 16) (s : State) (f : Profile → Profile) :
    State.WorksAt i s (s.modProfile q f) := ⟨fun _ _ => rfl, rfl⟩

theorem State.worksAt_clearTrips (s : State) (i : Fin 8) : State.WorksAt i s (s.clearTrips i) := by
  unfold State.clearTrips
  split
  · exact (s.worksAt_modChannel ..).trans (State.worksAt_modChannel ..)
  · exact s.worksAt_modChannel ..

theorem State.worksAt_clearRails (s : State) (i : Fin 8) : State.WorksAt i s (s.clearRails i) := s.worksAt_modPair ..

theorem State.worksAt_releaseBinding (s : State) (i : Fin 8) : State.WorksAt i s (s.releaseBinding i) := by
  unfold State.releaseBinding
  split
  · exact .refl ..
  · exact (s.worksAt_modProfile ..).trans (State.worksAt_modSlot ..)

theorem State.worksAt_bindTo (s : State) (i : Fin 8) (p : Fin 16) : State.WorksAt i s (s.bindTo i p) := by
  unfold State.bindTo
  split
  · exact .refl ..
  · exact ((s.worksAt_releaseBinding i).trans (State.worksAt_modProfile ..)).trans (State.worksAt_modSlot ..)

theorem State.worksAt_beginOnPhase (s : State) (i : Fin 8) : State.WorksAt i s (s.beginOnPhase i) :=
  (s.worksAt_modSlot ..).trans (State.worksAt_clearTrips ..)

theorem State.worksAt_enterRest (s : State) (i : Fin 8) : State.WorksAt i s (s.enterRest i) := by
  unfold State.enterRest
  dsimp only
  split
  · exact s.worksAt_beginOnPhase i
  · exact s.worksAt_modSlot ..

theorem State.worksAt_enterOffPhase (s : State) (i : Fin 8) : State.WorksAt i s (s.enterOffPhase i) := by
  unfold State.enterOffPhase
  dsimp only
  split
  · exact s.worksAt_modSlot ..
  split
  · exact s.worksAt_modSlot ..
  · exact s.worksAt_enterRest i

theorem State.worksAt_countOnPhase (s : State) (i : Fin 8) (v : Verdict) : State.WorksAt i s (s.countOnPhase i v) :=
  (s.worksAt_modSlot ..).trans (State.worksAt_enterOffPhase ..)

theorem State.worksAt_abandonOnPhase (s : State) (i : Fin 8) (v : Verdict) : State.WorksAt i s (s.abandonOnPhase i v) :=
  s.worksAt_modSlot ..

theorem State.worksAt_enterDrain (s : State) (i : Fin 8) (x : DrainNext) : State.WorksAt i s (s.enterDrain i x) :=
  s.worksAt_modSlot ..

theorem State.worksAt_pauseSlot (s : State) (i : Fin 8) : State.WorksAt i s (s.pauseSlot i) := by
  unfold State.pauseSlot
  split
  · exact (s.worksAt_abandonOnPhase ..).trans (State.worksAt_modSlot ..)
  · exact s.worksAt_modSlot ..
  · exact s.worksAt_modSlot ..
  · exact (s.worksAt_modSlot ..).trans (State.worksAt_clearRails ..)
  all_goals exact .refl ..

theorem State.worksAt_resumeSlot (s : State) (i : Fin 8) : State.WorksAt i s (s.resumeSlot i) := by
  unfold State.resumeSlot
  split
  · split
    · exact s.worksAt_modSlot ..
    · exact s.worksAt_enterRest i
  · exact .refl ..

theorem State.worksAt_settleRestored (s : State) (i : Fin 8) : State.WorksAt i s (s.settleRestored i) := by
  unfold State.settleRestored
  repeat' split
  all_goals first | exact s.worksAt_modSlot .. | exact s.worksAt_enterRest i

theorem State.worksAt_restore (s : State) (i : Fin 8) : State.WorksAt i s (s.restore i) := by
  unfold State.restore
  dsimp only
  split
  · exact (s.worksAt_releaseBinding i).trans (State.worksAt_modSlot ..)
  · exact ((s.worksAt_releaseBinding i).trans (State.worksAt_modSlot ..)).trans (State.worksAt_settleRestored ..)

theorem State.worksAt_onTimeExpiry (s : State) (i : Fin 8) : State.WorksAt i s (s.onTimeExpiry i) := by
  unfold State.onTimeExpiry
  split
  · exact (s.worksAt_modSlot ..).trans (State.worksAt_countOnPhase ..)
  · exact .refl ..

theorem State.worksAt_bleedExpiry (s : State) (i : Fin 8) : State.WorksAt i s (s.bleedExpiry i) := by
  unfold State.bleedExpiry
  repeat' split
  · exact s.worksAt_modSlot ..
  · exact s.worksAt_enterRest i
  · exact .refl ..

theorem State.worksAt_restExpiry (s : State) (i : Fin 8) : State.WorksAt i s (s.restExpiry i) := by
  unfold State.restExpiry
  split
  · exact s.worksAt_beginOnPhase i
  · exact .refl ..

theorem State.worksAt_endOfLead (s : State) (i : Fin 8) : State.WorksAt i s (s.endOfLead i) := by
  unfold State.endOfLead
  split
  · exact s.worksAt_modSlot ..
  · exact .refl ..

theorem State.worksAt_drainCompletion (s : State) (i : Fin 8) : State.WorksAt i s (s.drainCompletion i) := by
  unfold State.drainCompletion
  repeat' split
  all_goals first | exact .refl .. | exact s.worksAt_restore i | exact s.worksAt_modSlot ..

theorem State.worksAt_trip (s : State) (i : Fin 8) (t : TripCheck) : State.WorksAt i s (s.trip i t) := by
  unfold State.trip
  have h : State.WorksAt i s ((s.recordTrip i t).clearTrips i) :=
    (s.worksAt_modSlot ..).trans (State.worksAt_clearTrips ..)
  dsimp only
  split
  · exact ((h.trans (State.worksAt_abandonOnPhase ..)).trans (State.worksAt_enterDrain ..)).trans
      (State.worksAt_clearRails ..)
  · exact (h.trans (State.worksAt_enterDrain ..)).trans (State.worksAt_clearRails ..)

theorem State.worksAt_applyOnFail (s : State) (i : Fin 8) : State.WorksAt i s (s.applyOnFail i) := by
  unfold State.applyOnFail
  split
  · exact .refl ..
  · exact s.worksAt_countOnPhase ..
  · exact (s.worksAt_abandonOnPhase ..).trans (State.worksAt_enterDrain ..)

theorem State.worksAt_countedSample (s : State) (i : Fin 8) : State.WorksAt i s (s.countedSample i) := by
  unfold State.countedSample
  dsimp only
  split
  · exact (s.worksAt_modSlot ..).trans (State.worksAt_applyOnFail ..)
  · exact s.worksAt_modSlot ..

theorem State.worksAt_countTrips (s : State) (i : Fin 8) (checks : List TripCheck) :
    State.WorksAt i s (s.countTrips checks) := by
  unfold State.countTrips
  induction checks generalizing s with
  | nil => exact .refl ..
  | cons t rest ih => exact (s.worksAt_modChannel ..).trans (ih _)

theorem State.worksAt_sampleAtSlot (s : State) (i : Fin 8) : State.WorksAt i s (s.sampleAtSlot i) := by
  have h := s.worksAt_countTrips i (s.tripChecks i)
  have hRun : State.WorksAt i s
      (match (s.countTrips (s.tripChecks i)).tripped (s.tripChecks i)
          ((s.countTrips (s.tripChecks i)).activeRecord i).tripDebounce with
      | some t => (s.countTrips (s.tripChecks i)).trip i t
      | none =>
        if ((s.countTrips (s.tripChecks i)).slot i).active.state = .manual then
          (s.countTrips (s.tripChecks i)).modSlot i fun sl => { sl with active := sl.active.countSample }
        else if ((s.countTrips (s.tripChecks i)).slot i).active.subPhase = some .lead then
          s.countTrips (s.tripChecks i)
        else (s.countTrips (s.tripChecks i)).countedSample i) := by
    generalize s.countTrips (s.tripChecks i) = u at h
    split
    · exact h.trans (u.worksAt_trip ..)
    · split
      · exact h.trans (u.worksAt_modSlot ..)
      · split
        · exact h
        · exact h.trans (u.worksAt_countedSample i)
  unfold State.sampleAtSlot
  cases (s.slot i).active.state
  case runOn => exact hRun
  case manual => exact hRun
  all_goals exact .refl ..

theorem State.worksAt_endBenchContext (s : State) (i : Fin 8) : State.WorksAt i s (s.endBenchContext i) := by
  unfold State.endBenchContext State.drainToRestore
  dsimp only
  split
  · exact ((s.worksAt_abandonOnPhase ..).trans (State.worksAt_releaseBinding ..)).trans (State.worksAt_modSlot ..)
  · exact ((s.worksAt_releaseBinding ..).trans (State.worksAt_modSlot ..)).trans (State.worksAt_clearRails ..)
  all_goals
    first
    | exact (s.worksAt_releaseBinding ..).trans (State.worksAt_modSlot ..)
    | exact s.worksAt_restore i

end Sys2Proof.Machine
end

