-- ==== Sys2Proof/Tests/Slice0.lean ====
section
/-!
SUPPORT. The model's own tests: ill-formed terms refused; one step of each command and event against the spec's worked cases
or its rules; and, for each statement that has hypotheses, a state and operands that meet them.
-/

namespace Sys2Proof.Machine.Tests

open Sys2Proof Sys2Proof.Machine

/-! ## Well-formedness -/

theorem test_wf_profileWrite_extra_word :
    (Instr.profileWrite .rack 5 1 ((Vector.replicate 30 0).set 8 1)).wf = false := by decide

theorem test_wf_profileWrite_own_words :
    (Instr.profileWrite .rack 5 1 ((Vector.replicate 30 0).set 7 1)).wf = true := by decide

theorem test_wf_rackHeaderFrame_no_clocks : (Instr.rackHeaderFrame 0 0x1830 false).wf = false := by decide

theorem test_wf_rackDataFrame_no_clocks : (Instr.rackDataFrame 0 0 false).wf = false := by decide

theorem test_wf_badKindByte_header : (Instr.badKindByte 0x01).wf = false := by decide

theorem test_wf_badKindByte_data : (Instr.badKindByte 0x02).wf = false := by decide

/-! ## States -/

/-- The state after a command or event. -/
def after (c : Instr) (s : State) : State :=
  match exec c s with
  | .next t => t
  | .fault _ | .refused _ => s

/-- The last status a port holds. -/
def said (p : Party) (s : State) : Option Status := (s.port p).prevStatus

/-- The stage list of 4.8. -/
def stages48 : List Stage :=
  [ { kind := .wait, dd := 1, window := 3, a := 0, b := 0 }, { kind := .rise, dd := 2, window := 10, a := 2000, b := 0 },
    { kind := .dip, dd := 2, window := 20, a := 3000, b := 500 },
    { kind := .band, dd := 3, window := 6, a := 1500, b := 2500 } ]

/-- A profile with the plan of 1.5, the signature of 4.8, the trip settings of 7.6 and the standby rail of 8.6. -/
def plan : ProfileRecord :=
  { surgeLimit := 6000, soakLimit := 4000, tripLevel := 6000, openThreshold := 0, standbyLimit := 800
    standbyTrip := 1000, onTime := 50, offTime := 30, cycleCount := 3, driftLimit := 5, surgeCode := 2, bleed := 10
    standbyLead := 5, tripDebounce := 3, action := .carryOn, stages := stages48 }

/-- The part with a record in profile 2 and a slot bound to it, in a state. -/
def within (r : ProfileRecord) (i : Fin 8) (st : SlotState) : State :=
  (State.reset.modProfile 2 fun _ => { record := r, useCount := 1 }).modSlot i fun sl =>
    { sl with
      active :=
        { Context.reset with
          state := st, bound := some 2
          timer := if st.timed then some { duration := 50, elapsed := 1 } else none
          drainNext := if st = .drain then some .idle else none
          subPhase := if st = .runOn then some .soak else none } }

/-- The same with the plan above. -/
def at' (i : Fin 8) (st : SlotState) : State := within plan i st

/-- Change a slot's active context. -/
def ctx (i : Fin 8) (f : Context → Context) (s : State) : State :=
  s.modSlot i fun sl => { sl with active := f sl.active }

/-- The bench holds a slot, the rack's run parked. -/
def benchHeld (i : Fin 8) (s : State) : State :=
  s.modSlot i fun sl =>
    { sl with
      holder := .bench, holdTimer := some 60000000
      parked := some { Context.reset with state := .runOn, bound := some 2, d := 1 } }

/-- Pair 1, slots 2 and 3, in a mode. -/
def paired (m : PairMode) (rails : Option Rails) (s : State) : State := s.modPair 1 fun _ => { mode := m, rails := rails }

/-- Every slot held by the bench. -/
def allBench (s : State) : State := (List.finRange 8).foldl (fun s i => benchHeld i s) s

/-- A slot's flags raised. -/
def flagged (i : Fin 8) (bits : BitVec 7) (s : State) : State :=
  s.modSlot i fun sl => { sl with faults := { f := bits, uRack := bits, uBench := bits } }

/-- A summary of little content. -/
def someSummary : Summary :=
  { holder := .rack, profile := 2, cycle := 1, k := 1, current := 1, verdict := .pass, drifted := false, last := false
    invMean := false, invCharge := true, inexact := false, n := 1, peak := 1, mean := 1, charge := 65535, drift := none }

/-- A slot that withholds a summary. -/
def withholding (i : Fin 8) (s : State) : State :=
  (flagged i 0b0100000 s).modSlot i fun sl => { sl with withheld := some someSummary }

/-- A slot's converter about to deliver: its channel's present current and trip count given. -/
def channelAt (c : Fin 8) (present count : Nat) (s : State) : State :=
  s.modChannel c fun ch => { ch with present := present, tripCount := count }

/-! ## Calibration and rounding: the worked cases of 2.3 and 5.4 -/

theorem test_calibrate_worked_case : calibrate (-3) 530 1234 = 2549 := by decide

theorem test_calibrate_table :
    calibrate 15 1023 4095 = 16364 ∧ calibrate (-16) 600 8 = 0 ∧ calibrate 0 128 3 = 2 ∧ calibrate 0 127 1 = 0
      ∧ calibrate 0 512 1000 = 2000 ∧ calibrate 4 0 2000 = 0 := by decide

theorem test_round_half_way_values :
    roundRatio .nearestEven 7 2 = 4 ∧ roundRatio .down 7 2 = 3 ∧ roundRatio .up 7 2 = 4 ∧ roundRatio .zero 7 2 = 3
      ∧ roundRatio .nearestEven 5 2 = 2 ∧ roundRatio .nearestEven (-80) 32 = -2 ∧ roundRatio .down (-80) 32 = -3
      ∧ roundRatio .up (-80) 32 = -2 ∧ roundRatio .zero (-80) 32 = -2 := by decide

/-- The drifting cycle of 5.4. -/
def drifting : Context :=
  { Context.reset with bound := some 2, n := 60000, sum := 512345678, peak := 9000, baseline := some 136500 }

def shelfEnv : Env := { record := plan, mode := .separate, sdiv := 249, current := 0 }

theorem test_summary_drifting :
    let m := summaryOf shelfEnv .rack drifting .pass false
    m.mean = 8539 ∧ m.charge = 5123 ∧ m.drift = some 8 ∧ m.drifted = true ∧ m.inexact = true := by decide

theorem test_summary_overflowing_charge :
    let m := summaryOf shelfEnv .rack { Context.reset with n := 700000, sum := 7000000000 } .pass false
    m.mean = 10000 ∧ m.charge = 65535 ∧ m.invCharge = true ∧ m.inexact = false ∧ baselineOf 7000000000 700000 = 160000 := by
  decide

theorem test_summary_empty_on_phase :
    let m := summaryOf shelfEnv .rack Context.reset .abort false
    m.mean = 65535 ∧ m.invMean = true ∧ m.charge = 0 ∧ m.invCharge = false ∧ m.inexact = false ∧ m.notable = true := by
  decide

/-- 12.8: the own words of the drifting cycle's record. -/
theorem test_summary_record_words :
    ((summaryOf shelfEnv .rack drifting .pass false).toRecord.words).drop 3 =
      [0x00088110, 0x0000EA60, halves 9000 8539, 0x00001403] := by decide

/-- 5.4, the mirror cycle, and its word 4 in 12.8. -/
theorem test_summary_mirror :
    ((summaryOf shelfEnv .rack { drifting with sum := 511404322 } .pass false).toRecord.words).getD 3 0 = 0xFFF88110 := by
  decide

/-! ## The checker: 4.8 and 4.9 -/

theorem test_checker_walk_that_passes :
    (Checker.over stages48 Checker.initial
      ([200, 400, 900, 1500, 2100, 1900, 2300, 2600, 2900, 3400, 3700, 3500, 3100, 2800, 2400, 2600].map (Prod.mk 6000)
        ++ [2450, 2550, 2580, 2300].map (Prod.mk 4000))) =
      { condition := .done, stage := 3, j := 6, run := 0, armed := false, max := 0 } := by decide

theorem test_checker_overshoot_after_surge :
    (Checker.over stages48 Checker.initial
      ([200, 400, 900, 1500, 2100, 1900, 2300, 2600, 2900, 3400, 3600, 3750, 3800, 3850, 3880, 3900].map (Prod.mk 6000)
        ++ [4010].map (Prod.mk 4000))) =
      { condition := .failed, stage := 2, j := 9, run := 0, armed := true, max := 3900 } := by decide

theorem test_checker_late_regulator :
    let c := Checker.over stages48 Checker.initial
      ([200, 400, 900, 1500, 2100, 1900, 2050, 1800, 2200, 1700, 2100, 1950, 2300].map (Prod.mk 6000))
    c.condition = .failed ∧ c.stage = 1 ∧ c.j = 10 := by decide

/-! ## The stack: 6.6 -/

/-- A record told apart by its k. -/
def rec' (k : Nat) : Record := { Record.blank with k := k }

/-- Slot 4's stack after the pushes A to H (k 1 to 8), and depth 3 freed. -/
def holed : Slot := (([1, 2, 3, 4, 5, 6, 7, 8].map rec').foldl Slot.push Slot.reset).freeDepth 3

/-- The records a slot shows by depth, 0 for a hole. -/
def Shown (sl : Slot) : List Nat :=
  (List.finRange 8).map fun k => if sl.validAt k then (sl.entryAt k).record.k else 0

theorem test_stack_pushes_and_hole : holed.top = 0 ∧ Shown holed = [8, 7, 6, 0, 4, 3, 2, 1] := by decide

theorem test_stack_keep_newest :
    let sl := holed.push (rec' 9)
    sl.top = 7 ∧ Shown sl = [9, 8, 7, 6, 0, 4, 3, 2] ∧ (sl.entryAt 0).record.afterLoss = true
      ∧ sl.flag .stack = true ∧ sl.validCount = 7 := by decide

theorem test_stack_keep_oldest :
    let sl := ({ holed with active := { holed.active with conv := { ConvControl.initial with policy := .keepOldest } } }).push
      (rec' 9)
    sl.top = 0 ∧ Shown sl = [8, 7, 6, 0, 4, 3, 2, 1] ∧ sl.flag .stack = true := by decide

theorem test_stack_retire_then_push :
    let sl := ((holed.push (rec' 9)).retire).push (rec' 10)
    Shown sl = [10, 8, 7, 6, 0, 4, 3, 2] ∧ (sl.entryAt 0).record.afterLoss = false := by decide

/-! ## The slot commands -/

theorem test_bind_empty_profile : said .rack (after (.bind .rack 3 5) State.reset) = some .unbound := by decide

theorem test_bind_counts_use :
    let t := after (.bind .rack 3 2) (at' 0 .idle)
    (t.slot 3).active.bound = some 2 ∧ (t.profile 2).useCount = 2 := by decide

theorem test_unbind_in_rest : said .rack (after (.unbind .rack 0 0) (at' 0 .runRest)) = some .busy := by decide

theorem test_unbind_in_faulted :
    let t := after (.unbind .rack 0 0) (at' 0 .faulted)
    (t.slot 0).active.bound = none ∧ (t.profile 2).useCount = 0 := by decide

/-- The first line of 1.5. -/
theorem test_start_enters_surge :
    let c := (((after (.start .rack 0 0) (at' 0 .idle)).slot 0).active)
    c.state = .runOn ∧ c.subPhase = some .surge ∧ c.timer = some { duration := 50, elapsed := 0 } := by decide

theorem test_start_pending_before_busy :
    said .rack (after (.start .rack 0 0) (withholding 0 (at' 0 .runOn))) = some .pending := by decide

theorem test_stop_in_rest : ((after (.stop .rack 0 0) (at' 0 .runRest)).slot 0).active.state = .idle := by decide

theorem test_stop_in_run_on :
    let sl := (after (.stop .rack 0 0) (at' 0 .runOn)).slot 0
    sl.active.state = .drain ∧ sl.active.timer = some { duration := 10, elapsed := 0 }
      ∧ sl.active.latest.map Summary.verdict = some .abort ∧ sl.active.d = 0 := by decide

/-- The ACK refused in 10.6. -/
theorem test_ack_flag_set :
    said .rack (after (.ack .rack 3 0) (flagged 3 0b0000001 (at' 3 .faulted))) = some .flagSet := by decide

theorem test_ack_taken : ((after (.ack .rack 3 0) (at' 3 .faulted)).slot 3).active.state = .idle := by decide

/-- 11.3: the DRIVE of slot 4. -/
theorem test_drive_on : ((after (.drive .rack 4 0 1) (at' 4 .idle)).slot 4).active.state = .manual := by decide

/-- R17: in SEPARATE the value 3 is no operand. -/
theorem test_drive_three_separate : said .rack (after (.drive .rack 4 0 3) (at' 4 .idle)) = some .badArg := by decide

theorem test_setConv :
    ((after (.setConv .rack 1 0 0x111) State.reset).slot 1).active.conv =
      { rounding := .down, meanUnmasked := true, chargeUnmasked := false, policy := .keepOldest } := by decide

theorem test_slotInit_keeps_holder :
    let sl := (after (.slotInit .bench 1 0) (flagged 1 0b1111111 (benchHeld 1 (at' 1 .faulted)))).slot 1
    sl.holder = .bench ∧ sl.parked.isSome = true ∧ sl.faults.f = 0 ∧ sl.active = Context.reset := by decide

/-- 12.8: the status word of a STATUS on slot 3. -/
theorem test_status_word : (after (.status .bench 3 0) State.reset).bench.replies.head? = some 0x00531800 := by decide

theorem test_status_profile_code :
    ((after (.status .rack 3 0) State.reset).rack.replies.getD 1 0).extractLsb' 16 8 = 0xFF#8 := by decide

theorem test_summaryRead_empty : said .rack (after (.summaryRead .rack 0 2) State.reset) = some .empty := by decide

theorem test_summaryRead_baseline :
    (after (.summaryRead .rack 0 2) (ctx 0 (fun c => { c with baseline := some 136500 }) State.reset)).rack.replies.getD 1 0
      = 136500 := by decide

/-! ## Holding slots -/

/-- 12.8: the status word of a preempting TAKE of slot 5; 9.8: its effect on a run. -/
theorem test_take_preempts :
    let t := after (.take .bench 5 1) (at' 5 .runOn)
    t.bench.replies = [0x00052000] ∧ (t.slot 5).holder = .bench ∧ (t.slot 5).active.state = .drain
      ∧ (t.slot 5).parked.map Context.state = some .runOn ∧ (t.slot 5).holdTimer = some 900000000
      ∧ ((t.slot 5).entryAt 0).tag = .valid := by decide

theorem test_take_from_rack : said .rack (after (.take .rack 5 1) (at' 5 .runOn)) = some .notPermitted := by decide

/-- 9.8: RELEASE from MANUAL drains to RESTORE. -/
theorem test_release_from_manual :
    let t := after (.release .bench 5 0) (benchHeld 5 (at' 5 .manual))
    (t.slot 5).holder = .rack ∧ (t.slot 5).active.drainNext = some .restore ∧ (t.profile 2).useCount = 0 := by decide

theorem test_release_restores_at_once :
    let t := after (.release .bench 5 0) (benchHeld 5 (at' 5 .idle))
    (t.slot 5).active.state = .runRest ∧ (t.slot 5).active.timer = some { duration := 20, elapsed := 0 }
      ∧ (t.slot 5).parked = none := by decide

theorem test_holdTime_clamped :
    let t := after (.holdTime .bench 15 0 200) State.reset
    t.holdSetting = 120 ∧ said .bench t = some .clamped := by decide

theorem test_holdTimerExpiry :
    let t := after (.holdTimerExpiry 5) (benchHeld 5 (at' 5 .manual))
    (t.slot 5).holder = .rack ∧ (t.slot 5).faults.f = 0b1000000 := by decide

/-! ## Evidence and faults -/

theorem test_evPeek_empty : (after (.evPeek .rack 4 0) State.reset).rack.replies = [statusWord .empty 0x30 4 1, 0] := by decide

theorem test_evRetire_moves_top :
    ((after (.evRetire .rack 4 0) (State.reset.modSlot 4 fun _ => holed)).slot 4).top = 1 := by decide

theorem test_evFree_leaves_top :
    let sl := (after (.evFree .rack 4 7) (State.reset.modSlot 4 fun _ => holed)).slot 4
    sl.top = 0 ∧ Shown sl = [8, 7, 6, 0, 4, 3, 2, 0] := by decide

theorem test_evClear :
    let sl := (after (.evClear .rack 4 0) (State.reset.modSlot 4 fun _ => holed.push (rec' 9))).slot 4
    sl.top = 0 ∧ sl.validCount = 0 ∧ sl.flag .stack = true := by decide

/-- 10.6: the bench's read of a slot the rack holds. -/
theorem test_faultRead_non_holder :
    let sl := (after (.faultRead .bench 3 0 1) (flagged 3 1 State.reset)).slot 3
    sl.faults = { f := 1, uRack := 1, uBench := 0 } := by decide

/-- 10.6: the rack's. -/
theorem test_faultRead_holder :
    let sl := (after (.faultRead .rack 3 0 1) (flagged 3 1 State.reset)).slot 3
    sl.faults = { f := 0, uRack := 0, uBench := 1 } := by decide

theorem test_alertMask :
    let t := after (.alertMask .rack 15 0 0x1F7F) State.reset
    t.rackMask = { slotKinds := 0b1111111, partKinds := 0b11111 } ∧ t.alertLine .rack = false
      ∧ t.alertLine .bench = true := by decide

theorem test_partStatus :
    (after (.partStatus .rack 15 0) State.reset).rack.replies = [statusWord .ok 0x70 15 2, 0x04000000, 249] := by decide

/-! ## Profiles, pairs, calibration commands -/

/-- The operands of the write with two clamps (3.4). -/
def example3 : Vector Word 30 :=
  Vector.ofFn fun k =>
    [ halves 6000 4500, halves 5000 300, halves 0 0, halves 600 300, halves 200 250,
      field 8 0 3 ||| field 8 8 50 ||| field 8 16 20 ||| field 2 30 1, field 6 2 1 ||| field 16 16 5, 0,
      field 2 0 1 ||| field 6 2 3 ||| field 16 16 20, halves 2000 0, field 2 0 2 ||| field 6 2 4 ||| field 16 16 40,
      halves 3500 800 ].getD k.val 0

theorem test_profileWrite_two_clamps :
    let t := after (.profileWrite .rack 5 3 example3) State.reset
    said .rack t = some .clamped ∧ (t.profile 5).record.tripLevel = 6000 ∧ (t.profile 5).record.tripDebounce = 1
      ∧ (t.profile 5).record.rest = 250 ∧ (t.profile 5).record.action = .cut := by decide

theorem test_profileWrite_in_use :
    said .rack (after (.profileWrite .rack 2 3 example3) (at' 0 .idle)) = some .inUse := by decide

/-- 11.2: the reply to a PROFILE-READ of an empty profile is 8 words. -/
theorem test_profileRead_empty : (after (.profileRead .bench 7 0) State.reset).bench.replies.length = 8 := by decide

/-- R135, R59: the upper slot unbinds, and the walk it ended with is dropped. -/
theorem test_pair_unbinds_upper :
    let walked := ctx 3 (fun c => { c with checker := { c.checker with condition := .done, stage := 2 } }) (at' 3 .idle)
    let t := after (.pair .rack 1 2) (channelAt 3 0 2 walked)
    (t.pair 1).mode = .dual ∧ (t.slot 3).active.bound = none ∧ (t.profile 2).useCount = 0
      ∧ (t.channel 3).tripCount = 0 ∧ (t.slot 3).active.checker = Checker.initial := by decide

theorem test_pair_busy : said .rack (after (.pair .rack 1 2) (at' 3 .manual)) = some .busy := by decide

theorem test_setSampling_clamped :
    let t := after (.setSampling .rack 15 0 10) (State.reset.modChannel 0 fun c => { c with conversion := 7 })
    t.sdiv = 24 ∧ said .rack t = some .clamped ∧ (t.channel 0).conversion = 0 := by decide

theorem test_trimSet_clamped :
    let t := after (.trimSet .rack 6 0 (halves 1024 0xFFEF)) State.reset
    (t.channel 6).trim = -16 ∧ (t.channel 6).gain = 1023 ∧ said .rack t = some .clamped := by decide

theorem test_trimRead_factory :
    (after (.trimRead .rack 6 0) State.reset).rack.replies = [statusWord .ok 0x73 6 3, 512, 512, 0] := by decide

theorem test_trimProgram_counts :
    let t := after (.trimProgram .rack 15 0) State.reset
    t.programCount = 1 ∧ t.trimBusy = true := by decide

theorem test_trimProgrammingCompletion :
    let s := State.reset.modChannel 6 fun c => { c with trim := 3, gain := 530 }
    let t := after .trimProgrammingCompletion (after (.trimProgram .rack 15 0) s)
    (t.channel 6).storedTrim = 3 ∧ (t.channel 6).storedGain = 530 ∧ t.trimBusy = false := by decide

/-! ## Samples and the engine's events -/

/-- 2.3 at channel 0. -/
theorem test_sampleArrival_calibrates :
    ((after (.sampleArrival 0 1234) (State.reset.modChannel 0 fun c => { c with trim := -3, gain := 530 })).channel 0).present
      = 2549 := by decide

/-- The last line of 7.6, but for its figures: the third sample at 6400 mA trips. -/
theorem test_sampleArrival_trips :
    let sl := (after (.sampleArrival 1 3200) (channelAt 1 6300 2 (ctx 1 (fun c => { c with d := 11, k := 4006 }) (at' 1 .runOn)))).slot 1
    sl.active.state = .drain ∧ sl.active.drainNext = some .faulted ∧ sl.active.d = 11
      ∧ (sl.entryAt 1).record =
          { holder := .rack, afterLoss := false, profile := 2, cycle := 12, k := 4006, current := 6400
            body := .trip .self 6400 6000 } := by decide

/-- GANG: the input current is the sum of both. -/
theorem test_pairSampleEvent_gang :
    ((after (.pairSampleEvent 1 500 600) (paired .gang none (at' 2 .runOn))).slot 2).active.sum = 2200 := by decide

/-- DUAL in LEAD: checked and not counted (8.6). -/
theorem test_pairSampleEvent_lead :
    let s := paired .dual none (ctx 2 (fun c => { c with subPhase := some .lead }) (at' 2 .runOn))
    ((after (.pairSampleEvent 1 300 600) s).slot 2).active.k = 0 := by decide

/-- 1.5: the first on-time expiry. -/
theorem test_onTimeExpiry :
    let c := ((after (.onTimeExpiry 0) (ctx 0 (fun c => { c with checker := { c.checker with condition := .done } }) (at' 0 .runOn))).slot 0).active
    c.state = .runBleed ∧ c.d = 1 ∧ c.latest.map Summary.verdict = some .pass := by decide

/-- 4.9, a walk cut short: PHASE-END. -/
theorem test_onTimeExpiry_phase_end :
    ((((after (.onTimeExpiry 0) (at' 0 .runOn)).slot 0).entryAt 1).record.body) = .sigfail 0 .wait .phaseEnd none := by decide

/-- 1.5: the bleed's end after cycle 1, and after the last. -/
theorem test_bleedExpiry :
    ((after (.bleedExpiry 0) (ctx 0 (fun c => { c with d := 1 }) (at' 0 .runBleed))).slot 0).active.timer =
        some { duration := 20, elapsed := 0 }
      ∧ ((after (.bleedExpiry 0) (ctx 0 (fun c => { c with d := 3 }) (at' 0 .runBleed))).slot 0).active.state = .idle := by
  decide

theorem test_restExpiry : ((after (.restExpiry 0) (at' 0 .runRest)).slot 0).active.subPhase = some .surge := by decide

theorem test_endOfLead :
    let s := paired .dual none (ctx 2 (fun c => { c with subPhase := some .lead }) (at' 2 .runOn))
    let c := ((after (.endOfLead 2) s).slot 2).active
    c.subPhase = some .surge ∧ c.timer = some { duration := 50, elapsed := 500000 } := by decide +kernel

/-- 9.8: the drain to RESTORE completes. -/
theorem test_drainCompletion_restores :
    let s := after (.release .bench 5 0) (benchHeld 5 (at' 5 .manual))
    let sl := (after (.drainCompletion 5) s).slot 5
    sl.active.state = .runRest ∧ sl.active.d = 1 ∧ sl.parked = none := by decide

theorem test_drainCompletion_idle : ((after (.drainCompletion 5) (at' 5 .drain)).slot 5).active.state = .idle := by decide

/-! ## Shelf holds and resets -/

/-- 7.7: slots 0 and 3. -/
theorem test_heatAsserted :
    let s := ctx 3 (fun c => { c with state := .manual }) (at' 0 .runOn)
    let t := after .heatAsserted s
    (t.slot 0).active.state = .paused ∧ (t.slot 3).active.state = .idle ∧ t.partFaults.f = 0b00101 := by decide

theorem test_heatReleased :
    let t := after .heatReleased (after .heatAsserted (at' 0 .runOn))
    (t.slot 0).active.state = .runRest ∧ t.shelfHold = false := by decide

theorem test_supplyLowAsserted_under_heat :
    let t := after .supplyLowAsserted (after .heatAsserted (at' 0 .runRest))
    t.partFaults.f = 0b00111 ∧ (t.slot 0).active.state = .paused := by decide

theorem test_supplyLowReleased_under_heat :
    let t := after .supplyLowReleased (after .supplyLowAsserted (after .heatAsserted (at' 0 .runRest)))
    (t.slot 0).active.state = .paused ∧ t.shelfHold = true := by decide

theorem test_deviceReset :
    let t := after (.deviceReset .rack 15 0) (at' 0 .runOn)
    t.rack.replies = [statusWord .ok 0x75 15 0] ∧ (t.profile 2).record = plan ∧ (t.profile 2).useCount = 0
      ∧ (t.slot 0).active = Context.reset ∧ t.resetCause = .command := by decide

theorem test_resetLineAsserted : (after .resetLineAsserted (at' 0 .runOn)).channelDrive 0 = .float := by decide

theorem test_resetLineReleased :
    let t := after .resetLineReleased (after .resetLineAsserted (at' 0 .runOn))
    t.resetCause = .line ∧ (t.slot 0).active = Context.reset ∧ (t.profile 2).record = plan := by decide

theorem test_logicSupplyLoss : (after .logicSupplyLoss (after (.trimProgram .rack 15 0) State.reset)).trimBusy = false := by
  decide

theorem test_powerOn :
    let t := after .powerOn (after .logicSupplyLoss (at' 0 .runOn))
    t.resetCause = .power ∧ (t.profile 2).record = ProfileRecord.empty ∧ t.partFaults.f = 0b00100 := by decide

/-! ## The ports -/

/-- 11.3: a DRIVE on the rack line. -/
theorem test_rackHeaderFrame_awaits :
    let t := after (.rackHeaderFrame 17 0x1540 false) (at' 4 .idle)
    t.rack.awaited = 1 ∧ t.rdo.take 9 = true :: List.replicate 8 false := by decide

theorem test_rackHeaderFrame_wrong_count :
    let t := after (.rackHeaderFrame 16 0x1540 false) (at' 4 .idle)
    t.rack.awaited = 0 ∧ t.partFaults.f = 0b01100 := by decide

theorem test_rackDataFrame_takes :
    let t := after (.rackDataFrame 33 1 false) (after (.rackHeaderFrame 17 0x1540 false) (at' 4 .idle))
    (t.slot 4).active.state = .manual ∧ t.rack.replies = [statusWord .ok 0x15 4 0] := by decide

/-- The bench bus in a write transaction. -/
def writing (s : State) : State := { s with bus := .writing [] }

theorem test_benchStartCondition_within_unit :
    (after .benchStartCondition { State.reset with bus := .writing [0x01] }).partFaults.f = 0b10100 := by decide

theorem test_benchStopCondition : (after .benchStopCondition (writing State.reset)).bus = .idle := by decide

theorem test_benchAddressByte :
    (after (.benchAddressByte 0xB8) { State.reset with bus := .addressing }).bus = .writing []
      ∧ (after (.benchAddressByte 0xBA) { State.reset with bus := .addressing }).bus = .ignored := by decide

/-- 12.8: the three bytes of the TAKE. -/
theorem test_benchUnitByte_take :
    let t := after (.benchUnitByte 0x20) (after (.benchUnitByte 0x51) (after (.benchUnitByte 0x01) (writing (at' 5 .runOn))))
    t.bench.replies = [0x00052000] ∧ (t.slot 5).holder = .bench := by decide

theorem test_benchHeaderUnit_take : (after (.benchHeaderUnit 0x2051) (writing (at' 5 .runOn))).bench.replies = [0x00052000] := by
  decide

theorem test_benchDataUnit_takes :
    let s := after (.benchHeaderUnit 0x22F0) (writing State.reset)
    (after (.benchDataUnit 7) s).holdSetting = 7 := by decide

theorem test_badKindByte :
    let t := after (.badKindByte 0x03) (writing State.reset)
    t.bus = .rejected ∧ t.partFaults.f = 0b10100 := by decide

/-- 11.2: transaction 1 of the bench read cut short sends the holder byte, then the status word's low byte. -/
theorem test_benchReadByte :
    let s := { after (.profileRead .bench 7 0) State.reset with bus := .reading false 0 false, holderByte := 0x3A }
    let t := after (.benchReadByte true) s
    t.benchLine = .sent 0x3A ∧ (after (.benchReadByte true) t).benchLine = .sent 0x00
      ∧ (after (.benchReadByte true) (after (.benchReadByte true) t)).benchLine = .sent 0x51 := by decide

/-! ## Witnesses: for each statement that has hypotheses, what meets them, clause by clause -/

/-- A part in which slot 0 runs, slot 5 is the bench's with a parked run, and the two contexts are bound to profile 2. -/
def lively : State :=
  (benchHeld 5 (at' 0 .runOn)).modProfile 2 fun pr => { pr with useCount := 2 }

/-- A command waits. -/
def queued (c : Instr) (s : State) : State := { s with pending := [c] }

/-- The part held by RESET, and by the loss of its supply. -/
def inReset : State := { State.reset with pins := { State.reset.pins with reset := true } }
def noSupply : State := { State.reset with pins := { State.reset.pins with logicSupply := false } }

theorem witness_StepTakesTheFrontCommand :
    (queued (.stop .rack 0 0) lively).pending = [Instr.stop .rack 0 0] := by decide

theorem witness_IdleStepPassesTimeOrTakesTheDueEvent :
    (inReset.pending = [] ∧ inReset.held = true)
    ∧ (State.reset.pending = [] ∧ State.reset.held = false ∧ State.reset.dueEvents = [])
    ∧ (let s := ctx 0 (fun c => { c with timer := some { duration := 1, elapsed := 100000 } }) (at' 0 .drain)
       s.pending = [] ∧ s.held = false ∧ s.dueEvents = [.drainCompletion 0])
    ∧ (let s := ctx 0 (fun c => { c with timer := some { duration := 1, elapsed := 100000 } }) (at' 0 .drain)
       let s := { s with programming := some { elapsed := 40000, captured := Vector.replicate 8 (0, 512) } }
       s.dueEvents = [.drainCompletion 0, .trimProgrammingCompletion]) := by decide +kernel

theorem witness_WithheldExactlyWhileConvIsSet :
    (queued (.faultRead .rack 0 0 32) (withholding 0 lively)).PendingIsConv
      ∧ ∃ t, step (queued (.faultRead .rack 0 0 32) (withholding 0 lively)) = .next t := ⟨by decide, _, rfl⟩

theorem witness_UseCountsAndHoldsAreKept :
    ((queued (.release .bench 5 0) lively).UseCountsMatch ∧ (queued (.release .bench 5 0) lively).HoldsStand
        ∧ (queued (.release .bench 5 0) lively).UpperCheckersAtStart
        ∧ (paired .gang none State.reset).UpperCheckersAtStart)
      ∧ ∃ t, step (queued (.release .bench 5 0) lively) = .next t := ⟨by decide, _, rfl⟩

theorem witness_BenchHoldsAndContextShapesAreKept :
    ((queued (.release .bench 5 0) lively).BenchHoldsStand ∧ (queued (.release .bench 5 0) lively).HoldsStand
        ∧ (queued (.release .bench 5 0) lively).Shaped)
      ∧ ∃ t, step (queued (.release .bench 5 0) lively) = .next t := ⟨by decide, _, rfl⟩

/-- What holds of the content of an option, where there is one. -/
theorem of_all {α : Type} {P : α → Prop} [DecidablePred P] {o : Option α} (h : o.all (fun x => decide (P x)) = true) :
    ∀ x, o = some x → P x := by
  rintro x rfl
  simpa using h

theorem witness_BindingsAndStoreAreKept :
    ((queued (.bind .rack 1 2) lively).RunsAreBound ∧ (queued (.bind .rack 1 2) lively).StoreInRange
        ∧ (queued (.bind .rack 1 2) lively).AssemblersStand)
      ∧ ∃ t, step (queued (.bind .rack 1 2) lively) = .next t :=
  ⟨⟨fun i => ⟨by revert i; decide, of_all (by revert i; decide)⟩, by decide, by decide⟩, _, rfl⟩

theorem witness_ShelfHoldStopsRuns :
    ((queued .heatAsserted lively).HoldStopsRuns ∧ (queued .heatAsserted lively).LevelsTaken)
      ∧ ∃ t, step (queued .heatAsserted lively) = .next t := ⟨by decide, _, rfl⟩

theorem witness_RangesAreKept :
    ((queued (.setSampling .rack 15 0 10) lively).SenseInRange
        ∧ (queued (.setSampling .rack 15 0 10) lively).CountersInRange)
      ∧ ∃ t, step (queued (.setSampling .rack 15 0 10) lively) = .next t :=
  ⟨⟨⟨by decide, by decide, by decide, by decide, of_all (by decide)⟩,
    fun i => ⟨by revert i; decide, of_all (by revert i; decide)⟩⟩, _, rfl⟩

theorem witness_ReportedValuesStayInRange :
    ((queued (.onTimeExpiry 0) lively).SenseInRange ∧ (queued (.onTimeExpiry 0) lively).ReportsInRange)
      ∧ ∃ t, step (queued (.onTimeExpiry 0) lively) = .next t := by
  have none (i : Fin 8) : ((queued (.onTimeExpiry 0) lively).slot i).active.baseline = none
      ∧ ((queued (.onTimeExpiry 0) lively).slot i).active.latest = none
      ∧ ((queued (.onTimeExpiry 0) lively).slot i).active.previous = none
      ∧ ((queued (.onTimeExpiry 0) lively).slot i).withheld = none
      ∧ ((queued (.onTimeExpiry 0) lively).slot i).active.sum = 0
      ∧ ((queued (.onTimeExpiry 0) lively).slot i).active.peak = 0 := by revert i; decide
  have parked (i : Fin 8) : ∀ c, ((queued (.onTimeExpiry 0) lively).slot i).parked = some c →
      c.baseline = .none ∧ c.latest = .none ∧ c.previous = .none ∧ c.sum = 0 ∧ c.peak = 0 :=
    of_all (by revert i; decide)
  refine ⟨⟨⟨by decide, by decide, by decide, by decide, of_all (by decide)⟩, fun i => ⟨?_, fun c h => ?_, ?_⟩⟩, _, rfl⟩
  · obtain ⟨h1, h2, h3, -, h5, h6⟩ := none i
    simp [Context.ReportsInRange, h1, h2, h3, h5, h6]
  · obtain ⟨h1, h2, h3, h5, h6⟩ := parked i c h
    simp [Context.ReportsInRange, h1, h2, h3, h5, h6]
  · simp [(none i).2.2.2.1]

theorem witness_RunsDoNotExceedTheirCycleCount :
    ((queued (.onTimeExpiry 0) lively).CyclesWithin ∧ (queued (.onTimeExpiry 0) lively).UseCountsMatch
        ∧ (queued (.onTimeExpiry 0) lively).HoldsStand)
      ∧ ∃ t, step (queued (.onTimeExpiry 0) lively) = .next t :=
  ⟨⟨fun i => ⟨by revert i; decide, of_all (by revert i; decide)⟩, by decide, by decide⟩, _, rfl⟩

theorem witness_RailRequestsStandOnlyInManual :
    (queued (.drive .rack 2 0 0) (paired .dual (some .both) (at' 2 .manual))).RailsOnlyInManual
      ∧ ∃ t, step (queued (.drive .rack 2 0 0) (paired .dual (some .both) (at' 2 .manual))) = .next t :=
  ⟨by decide, _, rfl⟩

theorem witness_NonHolderChangesOnlyItsOwnMarks :
    (namedOf (.faultRead .bench 0 0 1) = some ⟨.bench, .faultRead, 0, 0⟩ ∧ Cmd.faultRead ≠ .take
        ∧ (lively.slot 0).holder = otherParty .bench)
      ∧ ∃ t, exec (.faultRead .bench 0 0 1) lively = .next t := ⟨by decide, _, rfl⟩

theorem witness_BoundProfileKeepsItsRecord :
    ((lively.profile 2).useCount ≠ 0 ∧ Instr.deviceReset .rack 15 0 ≠ .powerOn)
      ∧ ∃ t, exec (.deviceReset .rack 15 0) lively = .next t := ⟨by decide, _, rfl⟩

theorem witness_EachCodeIsCalibratedToTheNearestMilliamp :
    (State.reset.held = false ∧ State.reset.isPaired 7 = false)
      ∧ ((paired .gang none State.reset).held = false ∧ (paired .gang none State.reset).isPaired (lowerOf 1) = true)
      ∧ ((0 : Nat) : Int) = (if ((15 : Nat) : Int) + -16 < 0 then 0 else 1) := by decide

theorem witness_RoundingModesRoundAsTheirNamesSay :
    (2 : Nat) ≠ 0 ∧ (0 : Int) ≤ 7 ∧ (-7 : Int) ≤ 0
      ∧ 2 * (7 - roundRatio .nearestEven 7 2 * (2 : Nat)).natAbs = 2 ∧ (8 : Int) = 4 * (2 : Nat) := by decide

theorem witness_PushLandsAtTheTopOrOverflows :
    (holed.entryAt 7).tag = .valid ∧ ¬ (Slot.reset.entryAt 7).tag = .valid ∧ ((0 : Fin 8) ≠ 7 ∧ (6 : Fin 8) ≠ 7)
      ∧ (convOf 0x100).policy = .keepOldest := by decide

theorem witness_WaitStagePassesAtItsWindow :
    ({ kind := .wait, dd := 1, window := 1, a := 0, b := 0 } : Stage).kind = .wait ∧ Checker.initial.j = 0 := by decide

theorem witness_RiseAndBandStagesJudgeRunsOfSamples :
    Checker.initial.j = 0 ∧ Checker.initial.run = 0
      ∧ (∀ k : Fin 2, let st := stages48.getD (1 + 2 * k.val) { kind := .wait, dd := 0, window := 0, a := 0, b := 0 }
          1 ≤ st.dd ∧ 1 ≤ st.window ∧ (st.kind = .rise ∨ st.kind = .band)) := by decide

theorem witness_DipStageFollowsThePeakAndCountsTheDescent :
    let st : Stage := { kind := .dip, dd := 2, window := 20, a := 3000, b := 500 }
    let armed : Checker := { Checker.initial with armed := true, max := 3700 }
    st.kind = .dip ∧ (4000 ≤ 4000) ∧ (3999 < 4000 ∧ Checker.initial.armed = false ∧ 2999 < st.a ∧ st.a ≤ 3000)
      ∧ (armed.armed = true ∧ armed.max < 3701 ∧ 1 ≤ st.dd) ∧ (3200 ≤ armed.max ∧ 3200 + 500 ≤ armed.max)
      ∧ armed.max < 3201 + 500 := by decide

theorem witness_CheckerWalksItsStagesInOrder :
    (Checker.initial.condition = .idle ∧ (stages48[0]?).isSome = true
        ∧ ((stages48.getD 0 { kind := .wait, dd := 0, window := 0, a := 0, b := 0 }).takeSample 6000 0
            { Checker.initial with condition := .walking }).2 = .open)
      ∧ (let c := { Checker.initial with condition := .walking, j := 2 }
         ((stages48.getD 0 { kind := .wait, dd := 0, window := 0, a := 0, b := 0 }).takeSample 6000 0 c).2 = .pass
           ∧ c.stage + 1 < stages48.length)
      ∧ (let c := { Checker.initial with condition := .walking, stage := 3, j := 5 }
         ((stages48.getD 3 { kind := .wait, dd := 0, window := 0, a := 0, b := 0 }).takeSample 4000 2000 c).2 = .pass
           ∧ c.stage + 1 = stages48.length)
      ∧ (let c := { Checker.initial with condition := .walking, stage := 2 }
         ((stages48.getD 2 { kind := .wait, dd := 0, window := 0, a := 0, b := 0 }).takeSample 4000 4000 c).2 = .fail .limit)
      ∧ (Checker.over [] { Checker.initial with condition := .done } []).condition = .done
      ∧ (Checker.over [{ kind := .wait, dd := 1, window := 1, a := 0, b := 0 }] Checker.initial [(1, 0)]).condition
          = .done := by decide

theorem witness_SummaryIsFormedShiftedAndFiled :
    (summaryOf shelfEnv .rack { drifting with baseline := none } .pass false).notable = false
      ∧ (summaryOf shelfEnv .rack drifting .pass false).notable = true
      ∧ (let m := summaryOf shelfEnv .rack Context.reset .abort false
         m.notable = true ∧ m.unmaskedInvalid (convOf 0x10) = true)
      ∧ (Slot.reset.withheld = none ∧ ((withholding 0 State.reset).slot 0).withheld ≠ none) := by decide

theorem witness_StatusAndRecordWordsCarryTheirFields :
    Record.blank.body = .opened 0 ∧ ({ Record.blank with body := .trip .self 16364 32767 } : Record).body = .trip .self 16364 32767
      ∧ (-32768 : Int) ≤ -32728 ∧ (32728 : Int) ≤ 32767 ∧ 47 ≤ 47
      ∧ bitsOf (statusWord .unknown 0xFE 15 47) 20 6 = 47 ∧ statusWord .unknown 0xFE 15 47 = 0x02FFFE1F := by decide

theorem witness_ProfileWordsRoundTrip :
    (plan.surgeLimit < 65536 ∧ plan.soakLimit < 65536 ∧ plan.tripLevel < 65536 ∧ plan.openThreshold < 65536
        ∧ plan.standbyLimit < 65536 ∧ plan.standbyTrip < 65536 ∧ plan.onTime < 65536 ∧ plan.offTime < 65536
        ∧ plan.cycleCount < 65536 ∧ plan.driftLimit < 65536 ∧ plan.surgeCode < 256 ∧ plan.bleed < 256
        ∧ plan.standbyLead < 256 ∧ plan.tripDebounce < 64)
      ∧ ∀ st ∈ plan.stages, st.dd < 64 ∧ st.window < 65536 ∧ st.a < 65536 ∧ st.b < 65536 := by decide

theorem witness_ChannelOutputsFollowTheGoverningContext :
    inReset.held = true ∧ (at' 0 .runBleed).held = false ∧ ((at' 0 .runBleed).slot 0).active.state = .runBleed
      ∧ ((at' 0 .paused).slot 0).active.state = .paused
      ∧ ({ at' 0 .runOn with heat := true }.shelfHold = true ∧ (at' 0 .runOn).shelfHold = false)
      ∧ (at' 0 .runOn).mode 0 = .separate ∧ (paired .gang none (at' 2 .runOn)).mode 3 = .gang
      ∧ ((paired .dual none (at' 2 .runOn)).mode 3 = .dual ∧ isUpper 3 = true ∧ isUpper 2 = false) := by decide

theorem witness_BindBindsTheNamedProfile :
    (at' 0 .idle).Reaches .rack 0 ∧ ((at' 0 .idle).slot 0).active.state = .idle
      ∧ ((at' 0 .idle).profile (profileOf 2)).record.stages ≠ [] := by decide

theorem witness_UnbindAndSlotInitGiveUpTheBinding :
    ((at' 0 .idle).Reaches .rack 0 ∧ ((at' 0 .idle).slot 0).active.state = .idle)
      ∧ ((at' 0 .faulted).Reaches .rack 0 ∧ ((at' 0 .faulted).slot 0).active.state = .faulted) := by decide

theorem witness_StartBeginsARun :
    (at' 0 .idle).Reaches .rack 0 ∧ ((at' 0 .idle).slot 0).withheld = none ∧ ((at' 0 .idle).slot 0).active.state = .idle
      ∧ ((at' 0 .idle).slot 0).active.bound ≠ none ∧ (at' 0 .idle).heat = false ∧ (at' 0 .idle).supplyLow = false := by decide

theorem witness_StopEndsTheRunByState :
    ∀ st ∈ [SlotState.runOn, .runBleed, .runRest, .paused, .manual],
      (at' 0 st).Reaches .rack 0 ∧ ((at' 0 st).slot 0).active.state = st ∧ st ≠ .idle ∧ st ≠ .faulted ∧ st ≠ .drain := by
  decide

theorem witness_AckAndSetConvChangeOneThing :
    (at' 0 .faulted).Reaches .rack 0 ∧ ((at' 0 .faulted).slot 0).active.state = .faulted
      ∧ ((at' 0 .faulted).slot 0).faults.f.getLsbD 0 = false ∧ ((at' 0 .faulted).slot 0).faults.f.getLsbD 2 = false := by decide

theorem witness_DriveFeedsBleedsOrFloats :
    (∀ st ∈ [SlotState.idle, .manual], (at' 0 st).Reaches .rack 0 ∧ ((at' 0 st).slot 0).active.state = st
        ∧ ((at' 0 st).slot 0).active.bound ≠ none ∧ (at' 0 st).heat = false ∧ (at' 0 st).supplyLow = false
        ∧ ¬ (at' 0 st).mode 0 = .dual)
      ∧ ((paired .dual none (at' 2 .idle)).Reaches .rack 2 ∧ (paired .dual none (at' 2 .idle)).mode 2 = .dual) := by decide

theorem witness_DriveIsRefusedInOrder :
    (at' 0 .idle).held = false ∧ 8 ≤ (8 : Nibble).toNat ∧ (7 : Nibble) = slotField 7
      ∧ (paired .dual none State.reset).upperPaired 3 = true
      ∧ ((at' 0 .idle).upperPaired 0 = false ∧ ¬ ((3 : Word).toNat ≤ 2 ∨ ((3 : Word) = 3 ∧ (at' 0 .idle).mode 0 = .dual)))
      ∧ ((at' 0 .idle).slot 0).holder ≠ .bench
      ∧ ((at' 0 .runOn).Reaches .rack 0 ∧ ((at' 0 .runOn).slot 0).active.state ≠ .idle
          ∧ ((at' 0 .runOn).slot 0).active.state ≠ .manual)
      ∧ (State.reset.Reaches .rack 0 ∧ (State.reset.slot 0).active.bound = none)
      ∧ ({ at' 0 .idle with heat := true }.Reaches .rack 0 ∧ { at' 0 .idle with heat := true }.shelfHold = true) := by decide

theorem witness_StatusReportsTheSlot :
    lively.held = false ∧ (State.reset.slot 0).active.timer = none
      ∧ (lively.slot 0).active.timer = some { duration := 50, elapsed := 1 }
      ∧ (lively.slot 5).parked.isSome = true ∧ lively.readHold .rack 0 0 = none
      ∧ lively.readHold .bench 5 5 = some 900000000 ∧ 900000000 ≤ 255 * 60000000 := by decide

theorem witness_SummaryReadAndEvPeekReport :
    State.reset.held = false ∧ (State.reset.slot 0).active.latest = none
      ∧ ((ctx 0 (fun c => { c with latest := some someSummary, previous := some someSummary, baseline := some 523648 })
          State.reset).slot 0).active.latest = some someSummary
      ∧ 523648 < 1048576 ∧ (holed.stack[holed.top + 0]).tag = .valid ∧ (holed.stack[holed.top + 3]).tag = .empty := by decide

theorem witness_EvRetireRemovesTheTopEntry :
    lively.Reaches .rack 0 ∧ (lively.slot 0).withheld = none := by decide

theorem witness_EvFreeAndEvClearRemoveEntries :
    lively.Reaches .bench 5 ∧ (lively.slot 5).withheld = none := by decide

theorem witness_TakeParksTheRacksContext :
    (lively.held = false ∧ lively.upperPaired 5 = false ∧ (lively.slot 5).holder = .bench)
      ∧ (∀ st ∈ [SlotState.idle, .faulted, .runRest, .paused, .runOn, .runBleed, .manual],
          ((at' 5 st).slot 5).holder = .rack ∧ ((at' 5 st).slot 5).active.state = st ∧ st ≠ .drain) := by decide

theorem witness_ReleaseAndExpiryEndTheBenchHold :
    (∀ st ∈ [SlotState.idle, .faulted, .runRest, .paused, .runOn, .runBleed, .manual, .drain],
      (benchHeld 5 (at' 5 st)).Reaches .bench 5 ∧ ((benchHeld 5 (at' 5 st)).slot 5).active.state = st
        ∧ ((benchHeld 5 (at' 5 st)).slot 5).holdTimer ≠ none) := by decide

theorem witness_HoldTimeSetsTheSetting :
    State.reset.held = false ∧ (14 : Nibble) ≠ 15 := by decide

theorem witness_FaultReadReportsThenClears :
    State.reset.held = false
      ∧ (let s := withholding 0 State.reset
         (s.slot 0).holder = .rack ∧ s.upperPaired 0 = false ∧ ((32 : Word).extractLsb' 0 7).getLsbD 5 = true
           ∧ (s.slot 0).faults.f.getLsbD 5 = true ∧ (s.slot 0).withheld = some someSummary)
      ∧ ((flagged 0 0b0100000 State.reset).slot 0).withheld = none := by decide

theorem witness_AlertMaskAndPartReadsAnswerEitherParty :
    State.reset.held = false ∧ (State.reset.channel 7).InRange := by decide

theorem witness_ProfileWriteStoresTheClampedRecord :
    State.reset.held = false ∧ (0 : Nibble).toNat = 0 ∧ 12 < (13 : Nibble).toNat
      ∧ bitsOf ((Vector.replicate 30 (0 : Word)).toList.getD 3 0) 0 16 = 0
      ∧ (1 ≤ (3 : Nibble).toNat ∧ (3 : Nibble).toNat ≤ 12
          ∧ bitsOf (example3.toList.getD 3 0) 0 16 ≠ 0 ∧ bitsOf (example3.toList.getD 5 0) 30 2 ≠ 3
          ∧ ∀ k : Fin 3, bitsOf (example3.toList.getD (6 + 2 * k.val) 0) 0 2 ≠ 3)
      ∧ ((lively.profile 2).useCount ≠ 0 ∧ (lively.profile 5).useCount = 0) := by decide

theorem witness_PairSetsTheMode :
    State.reset.held = false ∧ 4 ≤ (4 : Nibble).toNat ∧ 3 ≤ (3 : Nibble).toNat
      ∧ (((2 : Nibble) = match PairMode.dual with | .separate => 0 | .gang => 1 | .dual => 2) ∧ (3 : Nibble) = pairField 3)
      ∧ ((State.reset.slot (lowerOf 3)).holder = .rack ∧ (State.reset.slot (upperOf 3)).holder = .rack
          ∧ (State.reset.slot (lowerOf 3)).active.state = .idle ∧ (State.reset.slot (upperOf 3)).active.state = .idle
          ∧ (State.reset.slot (lowerOf 3)).parked = none ∧ (State.reset.slot (upperOf 3)).parked = none)
      ∧ (lively.slot (lowerOf 0)).active.state ≠ .idle ∧ (lively.slot (upperOf 2)).holder ≠ .rack := by decide

theorem witness_SetSamplingSetsTheDivider :
    State.reset.held = false ∧ (14 : Nibble) ≠ 15 ∧ (∀ i, (State.reset.slot i).holder = .rack)
      ∧ State.reset.programming = none ∧ (∀ i, (State.reset.slot i).active.state = .idle)
      ∧ (∃ i, (lively.slot i).holder ≠ .rack) ∧ (∀ i, ((at' 0 .runOn).slot i).holder = .rack)
      ∧ ((at' 0 .runOn).slot 0).active.state = .runOn := by decide

theorem witness_TrimsAreSetProgrammedAndStored :
    State.reset.held = false ∧ (∀ i, (State.reset.slot i).holder = .rack) ∧ State.reset.programming = none
      ∧ State.reset.programCount < 15 ∧ { State.reset with programCount := 15 }.programCount = 15
      ∧ (after (.trimProgram .rack 15 0) State.reset).programming ≠ none := by decide

theorem witness_SamplesAreCheckedAndCounted :
    (at' 0 .runOn).held = false
      ∧ (at' 0 .runOn).SampleReaches (.sampleArrival 0 4095) 0 ((at' 0 .runOn).modChannel 0 fun c => c.arrive 4095)
      ∧ (∀ st ∈ [SlotState.runOn, .manual, .paused],
          ((at' 0 st).slot 0).active.state = st
            ∧ ∀ ch, ¬ ((at' 0 st).modChannel 0 fun c => c.arrive 4095).trips 0 ch)
      ∧ (let s := paired .dual none (ctx 2 (fun c => { c with subPhase := some .lead }) (at' 2 .runOn))
         (s.slot 2).active.subPhase = some .lead ∧ ∀ ch, ¬ s.trips 2 ch) :=
  ⟨by decide, .inl ⟨4095, rfl, by decide, rfl⟩, by decide, by decide⟩

/-- A run at the sample at which the first stage of its one-stage signature fails, with an on-fail action. -/
def failing (action : OnFail) : State :=
  within { plan with action := action, stages := [{ kind := .rise, dd := 1, window := 1, a := 2000, b := 0 }] } 0 .runOn

theorem witness_SignatureFailureActsAsTheProfileSays :
    ∀ action ∈ [OnFail.carryOn, .cut, .halt],
      let s := failing action
      let u := s.modChannel 0 fun c => c.arrive 10
      s.held = false ∧ s.isPaired 0 = false ∧ (s.slot 0).active.state = .runOn ∧ (s.slot 0).active.subPhase ≠ some .lead
        ∧ (∀ ch, ¬ u.trips 0 ch) ∧ (s.activeRecord 0).action = action
        ∧ ((s.slot 0).active.checker.step (s.activeRecord 0).stages 6000 (u.inputCurrent 0)).2 = some .window := by decide

theorem witness_TripDrainsTheSlotToFaulted :
    (let s := channelAt 1 6300 2 (at' 1 .runOn)
     let u := s.modChannel 1 fun c => c.arrive 3000
     s.held = false ∧ s.isPaired 1 = false ∧ u.trips 1 1 ∧ (∀ ch, u.trips 1 ch → 1 ≤ ch)
       ∧ u.appliedLevel 1 1 = some 6000)
    ∧ (let s := channelAt 2 1000 2 (channelAt 3 6000 2 (paired .dual (some .both) (at' 2 .manual)))
       let u := (s.modChannel 2 fun c => c.arrive 500).modChannel (upperOf 1) fun c => c.arrive 3000
       s.isPaired 2 = true ∧ u.trips 2 2 ∧ u.trips 2 3 ∧ (∀ ch, u.trips 2 ch → 2 ≤ ch)
         ∧ u.appliedLevel 2 2 = some 1000) := by decide

theorem witness_OnTimeExpiryCountsTheCycle :
    (at' 0 .runOn).held = false ∧ (at' 0 .runOn).upperPaired 0 = false ∧ ((at' 0 .runOn).slot 0).active.state = .runOn
      ∧ ((at' 0 .idle).slot 0).active.state ≠ .runOn := by decide

theorem witness_PhaseEventsMoveTheSlotOn :
    (∀ st ∈ [SlotState.runBleed, .runRest, .drain],
      (at' 0 st).held = false ∧ (at' 0 st).upperPaired 0 = false ∧ ((at' 0 st).slot 0).active.state = st
        ∧ (at' 0 st).shelfHold = false)
      ∧ ((at' 0 .drain).slot 0).active.drainNext = some .idle
      ∧ (let s := ctx 0 (fun c => { c with subPhase := some .lead }) (at' 0 .runOn)
         (s.slot 0).active.state = .runOn ∧ (s.slot 0).active.subPhase = some .lead)
      ∧ (let s := after (.release .bench 5 0) (benchHeld 5 (at' 5 .manual))
         (s.slot 5).active.state = .drain ∧ (s.slot 5).active.drainNext = some .restore
           ∧ (s.slot 5).parked.isSome = true) := by decide

theorem witness_ShelfInputsPauseAndResumeEverySlot :
    (lively.held = false ∧ lively.UpperStandsAside ∧ lively.heat = false ∧ lively.supplyLow = false)
      ∧ (let s := after .heatAsserted lively
         s.held = false ∧ s.UpperStandsAside ∧ s.heat = true ∧ s.supplyLow = false
           ∧ (s.slot 0).active.state = .paused)
      ∧ (let s := after .supplyLowAsserted (after .heatAsserted lively)
         s.UpperStandsAside ∧ s.heat = true ∧ s.supplyLow = true) := by decide

theorem witness_ResetsRestoreTheResetValues :
    (State.reset.held = false ∧ (∀ i, (State.reset.slot i).holder = .rack) ∧ State.reset.programming = none)
      ∧ (after (.trimProgram .rack 15 0) State.reset).programming ≠ none
      ∧ (inReset.pins.reset = true ∧ inReset.pins.logicSupply = true) ∧ noSupply.pins.logicSupply = false := by decide

theorem witness_HeldPartTakesNothing :
    State.reset.pins.reset = false ∧ State.reset.pins.logicSupply = true ∧ inReset.held = true ∧ noSupply.held = true
      ∧ { noSupply with pins := { noSupply.pins with reset := true } }.held = true
      ∧ Instr.restExpiry 0 ∉ [Instr.heatAsserted, .heatReleased, .supplyLowAsserted, .supplyLowReleased,
          .resetLineAsserted, .resetLineReleased, .logicSupplyLoss, .powerOn] := by decide

theorem witness_RackFramesAreCountedAndHandedOn :
    State.reset.held = false ∧ (16 ≠ 0 ∧ 16 ≠ 17) ∧ (34 ≠ 0 ∧ 34 ≠ 33) ∧ State.reset.rack.assembly = true := by decide

/-- What a header's assembling asks of its code and argument: each clause of `HeaderAssembles` is met. -/
theorem witness_HeaderAssembles :
    (Cmd.status.code = 0x18 ∧ Cmd.status.operandWords 0 = 0) ∧ (Cmd.drive.code = 0x15 ∧ Cmd.drive.operandWords 0 ≠ 0)
      ∧ Cmd.ofCode 0x76 = none := by decide

/-- And a data word's. -/
theorem witness_DataAssembles :
    State.reset.rack.awaited = 0
      ∧ (let s := after (.rackHeaderFrame 17 0x5021 false) State.reset
         s.rack.awaited = 8 ∧ s.rack.partialCommand = some { code := 0x50, target := 2, arg := 1, words := [] }
           ∧ s.rack.assembly = true)
      ∧ (after (.rackHeaderFrame 17 0x1540 false) State.reset).rack.awaited = 1 := by decide

theorem witness_BenchBusTransactionsFollowTheirBytes :
    State.reset.held = false ∧ { State.reset with bus := .addressing }.bus = .addressing
      ∧ ((0xB8 : Byte).extractLsb' 1 7 = State.reset.benchAddress ∧ (0xB8 : Byte).getLsbD 0 = false)
      ∧ ((0xB9 : Byte).extractLsb' 1 7 = State.reset.benchAddress ∧ (0xB9 : Byte).getLsbD 0 = true)
      ∧ (0xBA : Byte).extractLsb' 1 7 ≠ State.reset.benchAddress
      ∧ (writing State.reset).bus = .writing []
      ∧ (let s := { after (.profileRead .bench 7 0) State.reset with bus := .reading true 3 false }
         s.bus = .reading true 3 false ∧ s.bench.replies ≠ []) ∧ State.reset.bench.replies = [] := by decide

theorem witness_BenchUnitsAreHandedToTheAssembler :
    State.reset.held = false ∧ (writing State.reset).bus = .writing [] ∧ State.reset.bench.assembly = true
      ∧ { State.reset with bus := .writing [0x01, 0x51] }.bus = .writing [0x01, 0x51]
      ∧ { State.reset with bus := .writing [0x02, 7, 0, 0] }.bus = .writing [0x02, 7, 0, 0]
      ∧ ([7, 0] : List Byte).length < 3 := by decide

theorem witness_RefusalsStandInTheirOrder :
    State.reset.held = false
      ∧ (namedOf (.start .rack 8 0) = some ⟨.rack, .start, 8, 0⟩ ∧ (⟨.rack, .start, 8, 0⟩ : Named).badHeader = true)
      ∧ (⟨.rack, .take, 7, 1⟩ : Named).badHeader = false
      ∧ ((paired .gang none State.reset).upperPaired 3 = true ∧ (3 : Nibble) = slotField 3)
      ∧ (Cmd.ofHolder .start = true ∧ (State.reset.slot 0).holder ≠ .bench ∧ (State.reset.slot 0).holder = .rack)
      ∧ (((at' 0 .drain).slot 0).active.state = .drain ∧ ((at' 0 .runOn).slot 0).active.state = .runOn)
      ∧ (State.reset.Reaches .rack 0 ∧ State.reset.conditionRefusal 0 ⟨.rack, .start, 0, 0⟩ = some .unbound)
      ∧ (at' 0 .runOn).conditionRefusal 0 ⟨.rack, .bind, 0, 2⟩ = some .busy
      ∧ ({ at' 0 .idle with heat := true }).conditionRefusal 0 ⟨.rack, .start, 0, 0⟩ = some .shelfHold
      ∧ ((withholding 0 State.reset).slot 0).withheld ≠ none := by decide

end Sys2Proof.Machine.Tests
end

section
/-!
SUPPORT. The work of one slot engine: how the model's updates read in the terms of the statements, how far a run's own
work reaches, and what each of the engine's operations leaves at its slot and channels.
-/

namespace Sys2Proof.Machine

/-! ## The model's updates in the terms of the statements -/

theorem Context.beginOnPhase_eq (c : Context) (r : ProfileRecord) (mode : PairMode) :
    c.beginOnPhase r mode = c.onPhaseFrom r mode := by
  simp only [Context.beginOnPhase, Context.onPhaseFrom, startSubPhase, Nat.pos_iff_ne_zero]
  rfl

theorem Slot.beginOnPhase_eq (sl : Slot) (r : ProfileRecord) (mode : PairMode) :
    sl.beginOnPhase r mode = sl.onPhaseFrom sl.active r mode := by
  simp only [Slot.beginOnPhase, Context.beginOnPhase_eq]
  rfl

theorem runComplete_iff (r : ProfileRecord) (c : Context) : runComplete r c = true ↔ runDone r c.d := by
  simp [runComplete]

theorem completesRun_eq (r : ProfileRecord) (c : Context) :
    completesRun r c = decide (r.cycleCount ≠ 0 ∧ c.d + 1 = r.cycleCount) := by
  simp [completesRun]

theorem Context.countCycle_d (c : Context) : c.countCycle.d = if c.d < 65535 then c.d + 1 else 65535 := by
  show min (c.d + 1) 65535 = _
  split <;> omega

/-- A failure of the open stage as the statements write it. -/
theorem Slot.failStage_eq (sl : Slot) (env : Env) (cause : Cause) :
    sl.failStage env cause = sl.failed env.record env.current cause := rfl

theorem Slot.closeWalk_eq (sl : Slot) (env : Env) :
    sl.closeWalk env =
      if sl.active.checker.condition = .done ∨ sl.active.checker.condition = .failed then sl
      else sl.failed env.record env.current .phaseEnd := by
  unfold Slot.closeWalk
  cases h : sl.active.checker.condition <;> simp [Slot.failStage_eq]

/-- A push reads no more of the active context than its stack policy. -/
theorem Slot.push_with_active (sl : Slot) (c : Context) (r : Record) (h : c.conv = sl.active.conv) :
    ({ sl with active := c }).push r = { sl.push r with active := c } := by
  simp only [Slot.push, Slot.pushPosition, h]
  generalize (sl.stack[sl.top - 1]).tag = tag, sl.active.conv.policy = policy
  cases tag <;> cases policy <;> rfl

/-- A failed stage leaves the binding, the counters and the state of its context. -/
theorem Slot.failed_active (sl : Slot) (r : ProfileRecord) (current : Nat) (cause : Cause) :
    (sl.failed r current cause).active =
      { sl.active with checker := { sl.active.checker with condition := .failed } } := by
  simp [Slot.failed]

@[simp] theorem Slot.failed_parked (sl : Slot) (r : ProfileRecord) (current : Nat) (cause : Cause) :
    (sl.failed r current cause).parked = sl.parked := by
  simp [Slot.failed]

/-! ## How far a run's own work reaches -/

/-- Only slot `i` and trip counts of channels may differ: the run of one slot touches no binding, pair or port. -/
def State.RunsAt (i : Fin 8) (s t : State) : Prop :=
  (∀ j, j ≠ i → t.slot j = s.slot j)
    ∧ (∀ c, t.channel c = { s.channel c with tripCount := (t.channel c).tripCount })
    ∧ t = { s with slots := t.slots, channels := t.channels }

theorem State.RunsAt.refl (i : Fin 8) (s : State) : State.RunsAt i s s := ⟨fun _ _ => rfl, fun _ => rfl, rfl⟩

theorem State.RunsAt.trans {i : Fin 8} {s t u : State} (h : State.RunsAt i s t) (h' : State.RunsAt i t u) :
    State.RunsAt i s u := by
  obtain ⟨hs, hc, hf⟩ := h
  obtain ⟨hs', hc', hf'⟩ := h'
  refine ⟨fun j hj => (hs' j hj).trans (hs j hj), fun c => ?_, ?_⟩
  · rw [hc' c, hc c]
  · rw [hf] at hf'
    exact hf'

section
variable {i : Fin 8} {s t : State} (h : State.RunsAt i s t)
include h

theorem State.RunsAt.slot_ne {j : Fin 8} (hj : j ≠ i) : t.slot j = s.slot j := h.1 j hj

theorem State.RunsAt.pair (q : Fin 4) : t.pair q = s.pair q := by rw [h.2.2]; rfl

theorem State.RunsAt.profile (q : Fin 16) : t.profile q = s.profile q := by rw [h.2.2]; rfl

theorem State.RunsAt.mode (j : Fin 8) : t.mode j = s.mode j := by rw [h.2.2]; rfl

theorem State.RunsAt.governor (j : Fin 8) : t.governor j = s.governor j := by rw [h.2.2]; rfl

theorem State.RunsAt.upperPaired (j : Fin 8) : t.upperPaired j = s.upperPaired j := by rw [h.2.2]; rfl

theorem State.RunsAt.shelfHold : t.shelfHold = s.shelfHold := by rw [h.2.2]; rfl

theorem State.RunsAt.recordOf (b : Option (Fin 16)) : t.recordOf b = s.recordOf b := by rw [h.2.2]; rfl

theorem State.RunsAt.present (c : Fin 8) : (t.channel c).present = (s.channel c).present := by rw [h.2.1 c]

theorem State.RunsAt.inputCurrent (j : Fin 8) : t.inputCurrent j = s.inputCurrent j := by
  simp only [State.inputCurrent, h.mode, h.present]

/-- A slot's record stands while its binding does. -/
theorem State.RunsAt.activeRecord {j : Fin 8} (hb : (t.slot j).active.bound = (s.slot j).active.bound) :
    t.activeRecord j = s.activeRecord j := by
  rw [State.activeRecord, hb, h.recordOf]
  rfl

/-- So do its surroundings. -/
theorem State.RunsAt.env {j : Fin 8} (hb : (t.slot j).active.bound = (s.slot j).active.bound) : t.env j = s.env j := by
  have hsdiv : t.sdiv = s.sdiv := by rw [h.2.2]
  simp only [State.env, State.activeRecord, hb, h.recordOf, h.mode, h.inputCurrent, hsdiv]

theorem State.RunsAt.goneOn (j : Fin 8) (hold : Bool) (sl : Slot) (c : Context) :
    t.goneOn j hold sl c = s.goneOn j hold sl c := by
  simp only [State.goneOn, h.recordOf, h.mode]

theorem State.RunsAt.portsKept : s.PortsKept t := by rw [h.2.2]; exact ⟨rfl, rfl, rfl⟩

theorem State.RunsAt.onlySlotAndTrips : s.OnlySlotAndTrips i t := by
  obtain ⟨hs, hc, hf⟩ := h
  refine ⟨hs, hc, ?_⟩
  rw [hf]

/-- With the rail requests of the slot's pair set besides. -/
theorem State.RunsAt.onlySlotTripsAndRails_modPair (rails : Option Rails) :
    s.OnlySlotTripsAndRails i (t.modPair (pairOf i) fun p => { p with rails := rails }) := by
  have hpair := h.pair
  obtain ⟨hs, hc, hf⟩ := h
  refine ⟨hs, hc, fun q => ?_, ?_⟩
  · rw [State.pair_modPair]
    by_cases hq : q = pairOf i
    · subst hq
      simp [hpair]
    · simp [hq, hpair]
  · rw [hf]
    rfl

theorem State.RunsAt.onlySlotTripsAndRails : s.OnlySlotTripsAndRails i t := by
  have hpair := h.pair
  obtain ⟨hs, hc, hf⟩ := h
  refine ⟨hs, hc, fun q => ?_, ?_⟩
  · rw [hpair]
    simp
  · rw [hf]

theorem State.RunsAt.worksAt : State.WorksAt i s t := by
  obtain ⟨hs, -, hf⟩ := h
  refine ⟨hs, ?_⟩
  rw [hf]

end

theorem State.runsAt_modSlot (i : Fin 8) (s : State) (f : Slot → Slot) : State.RunsAt i s (s.modSlot i f) :=
  ⟨fun _ hj => s.slot_modSlot_ne f hj, fun _ => rfl, rfl⟩

theorem State.runsAt_modChannel (i c : Fin 8) (s : State) (n : Channel → Nat) :
    State.RunsAt i s (s.modChannel c fun ch => { ch with tripCount := n ch }) := by
  refine ⟨fun _ _ => rfl, fun d => ?_, rfl⟩
  rw [State.channel_modChannel]
  split
  · subst_vars; rfl
  · rfl

theorem State.runsAt_clearTrips (s : State) (i : Fin 8) : State.RunsAt i s (s.clearTrips i) := by
  unfold State.clearTrips
  split
  · exact (s.runsAt_modChannel i _ fun _ => 0).trans (State.runsAt_modChannel i _ _ fun _ => 0)
  · exact s.runsAt_modChannel i _ fun _ => 0

theorem State.runsAt_beginOnPhase (s : State) (i : Fin 8) : State.RunsAt i s (s.beginOnPhase i) :=
  (s.runsAt_modSlot ..).trans (State.runsAt_clearTrips ..)

theorem State.runsAt_enterRest (s : State) (i : Fin 8) : State.RunsAt i s (s.enterRest i) := by
  unfold State.enterRest
  dsimp only
  split
  · exact s.runsAt_beginOnPhase i
  · exact s.runsAt_modSlot ..

theorem State.runsAt_enterOffPhase (s : State) (i : Fin 8) : State.RunsAt i s (s.enterOffPhase i) := by
  unfold State.enterOffPhase
  dsimp only
  repeat' split
  · exact s.runsAt_modSlot ..
  · exact s.runsAt_modSlot ..
  · exact s.runsAt_enterRest i

theorem State.runsAt_countOnPhase (s : State) (i : Fin 8) (v : Verdict) : State.RunsAt i s (s.countOnPhase i v) :=
  (s.runsAt_modSlot ..).trans (State.runsAt_enterOffPhase ..)

theorem State.runsAt_abandonOnPhase (s : State) (i : Fin 8) (v : Verdict) : State.RunsAt i s (s.abandonOnPhase i v) :=
  s.runsAt_modSlot ..

theorem State.runsAt_enterDrain (s : State) (i : Fin 8) (x : DrainNext) : State.RunsAt i s (s.enterDrain i x) :=
  s.runsAt_modSlot ..

theorem State.runsAt_onTimeExpiry (s : State) (i : Fin 8) : State.RunsAt i s (s.onTimeExpiry i) := by
  unfold State.onTimeExpiry
  split
  · exact (s.runsAt_modSlot ..).trans (State.runsAt_countOnPhase ..)
  · exact .refl ..

theorem State.runsAt_countTrips (s : State) (i : Fin 8) (checks : List TripCheck) :
    State.RunsAt i s (s.countTrips checks) := by
  unfold State.countTrips
  induction checks generalizing s with
  | nil => exact .refl ..
  | cons t rest ih =>
    exact (s.runsAt_modChannel i t.channel fun c => if t.level ≤ c.present then c.tripCount + 1 else 0).trans (ih _)

theorem State.runsAt_applyOnFail (s : State) (i : Fin 8) : State.RunsAt i s (s.applyOnFail i) := by
  unfold State.applyOnFail
  split
  · exact .refl ..
  · exact s.runsAt_countOnPhase ..
  · exact (s.runsAt_abandonOnPhase ..).trans (State.runsAt_enterDrain ..)

/-! ## What each operation leaves at its slot -/

@[simp] theorem State.slot_clearTrips (s : State) (i j : Fin 8) : (s.clearTrips i).slot j = s.slot j := by
  rw [State.clearTrips_frame]; rfl

@[simp] theorem State.slot_clearRails (s : State) (i j : Fin 8) : (s.clearRails i).slot j = s.slot j := rfl

@[simp] theorem State.slot_beginOnPhase (s : State) (i : Fin 8) :
    (s.beginOnPhase i).slot i = (s.slot i).onPhaseFrom (s.slot i).active (s.activeRecord i) (s.mode i) := by
  simp [State.beginOnPhase, Slot.beginOnPhase_eq]

@[simp] theorem State.slot_abandonOnPhase (s : State) (i : Fin 8) (v : Verdict) :
    (s.abandonOnPhase i v).slot i = (s.slot i).formSummary (s.env i) v false := by
  simp [State.abandonOnPhase]

@[simp] theorem State.slot_enterDrain (s : State) (i : Fin 8) (x : DrainNext) :
    (s.enterDrain i x).slot i =
      (s.slot i).inState .drain (freshTimer (drainOf (s.activeRecord i))) (some x) := by
  simp only [State.enterDrain, State.slot_modSlot_self]
  rfl

@[simp] theorem State.slot_continueDrain (s : State) (i : Fin 8) (x : DrainNext) :
    (s.continueDrain i x).slot i = (s.slot i).inState .drain (s.slot i).active.timer (some x) := by
  simp only [State.continueDrain, State.slot_modSlot_self]
  rfl

/-- A run whose bleed, pause or parking is over: where it stops and where it goes on (R12, R20, R156). -/
def State.resumeRun (s : State) (i : Fin 8) (hold : Bool) : State :=
  if runComplete (s.activeRecord i) (s.slot i).active then s.modSlot i fun sl => sl.enter .idle none
  else if hold then s.modSlot i fun sl => sl.enter .paused none
  else s.enterRest i

theorem State.runsAt_resumeRun (s : State) (i : Fin 8) (hold : Bool) : State.RunsAt i s (s.resumeRun i hold) := by
  unfold State.resumeRun
  repeat' split
  · exact s.runsAt_modSlot ..
  · exact s.runsAt_modSlot ..
  · exact s.runsAt_enterRest i

theorem State.bleedExpiry_eq (s : State) (i : Fin 8) :
    s.bleedExpiry i = if (s.slot i).active.state = .runBleed then s.resumeRun i false else s := by
  simp [State.bleedExpiry, State.resumeRun]

theorem State.resumeSlot_eq (s : State) (i : Fin 8) :
    s.resumeSlot i = if (s.slot i).active.state = .paused then s.resumeRun i false else s := by
  unfold State.resumeSlot State.resumeRun
  cases (s.slot i).active.state <;> simp

theorem State.enterOffPhase_eq (s : State) (i : Fin 8) :
    s.enterOffPhase i =
      if (s.activeRecord i).bleed ≠ 0 then
        s.modSlot i fun sl => sl.enter .runBleed (some (Timer.start (s.activeRecord i).bleed))
      else s.resumeRun i false := by
  simp [State.enterOffPhase, State.resumeRun]

/-- A parked run is settled like any run that goes on; a slot parked at rest keeps its state (R156). -/
theorem State.settleRestored_eq (s : State) (i : Fin 8) :
    s.settleRestored i =
      match (s.slot i).active.state with
      | .faulted => s.modSlot i fun sl => sl.enter .faulted none
      | .runOn | .runBleed | .runRest | .paused => s.resumeRun i s.shelfHold
      | .idle | .manual | .drain => s.modSlot i fun sl => sl.enter .idle none := by
  unfold State.settleRestored State.resumeRun
  cases (s.slot i).active.state <;> rfl

theorem State.slot_enterRest (s : State) (i : Fin 8) :
    (s.enterRest i).slot i =
      if restOf (s.activeRecord i) ≠ 0 then
        (s.slot i).inState .runRest (freshTimer (restOf (s.activeRecord i))) none
      else (s.slot i).onPhaseFrom (s.slot i).active (s.activeRecord i) (s.mode i) := by
  unfold State.enterRest ProfileRecord.rest
  dsimp only
  by_cases h : restOf (s.activeRecord i) = 0
  · simp [h]
  · simp [h]
    rfl

theorem State.slot_resumeRun (s : State) (i : Fin 8) (hold : Bool) :
    (s.resumeRun i hold).slot i = s.goneOn i hold (s.slot i) (s.slot i).active := by
  unfold State.resumeRun State.goneOn
  simp only [runComplete_iff]
  change (if runDone (s.activeRecord i) _ then _ else _ : State).slot i =
    if runDone (s.activeRecord i) _ then _ else if hold then _ else if restOf (s.activeRecord i) ≠ 0 then _ else _
  split
  · simp only [State.slot_modSlot_self]; rfl
  split
  · simp only [State.slot_modSlot_self]; rfl
  · rw [State.slot_enterRest]
    rfl

/-! ## Trip counts -/

/-- A channel's trip count once the on-phase, if one begins at slot `i`, has cleared those it governs (R121). -/
theorem State.channel_beginOnPhase {s : State} {i : Fin 8} (h : s.upperPaired i = false) (ch : Fin 8) :
    ((s.beginOnPhase i).channel ch).tripCount = if s.governor ch = i then 0 else (s.channel ch).tripCount := by
  rw [State.beginOnPhase, State.channel_clearTrips (s := s.modSlot i _) h]
  rfl

theorem State.channel_resumeRun {s : State} {i : Fin 8} (h : s.upperPaired i = false) (hold : Bool) (ch : Fin 8) :
    ((s.resumeRun i hold).channel ch).tripCount =
      if s.goesOnAtOnce hold (s.slot i).active ∧ s.governor ch = i then 0 else (s.channel ch).tripCount := by
  have hgo : s.goesOnAtOnce hold (s.slot i).active ↔
      ¬ runDone (s.activeRecord i) (s.slot i).active.d ∧ hold = false ∧ restOf (s.activeRecord i) = 0 := Iff.rfl
  unfold State.resumeRun
  by_cases hd : runDone (s.activeRecord i) (s.slot i).active.d
  · rw [if_pos ((runComplete_iff ..).mpr hd), if_neg fun h => (hgo.mp h.1).1 hd]
    rfl
  rw [if_neg (mt (runComplete_iff ..).mp hd)]
  cases hold with
  | true =>
    rw [if_pos rfl, if_neg fun h => Bool.noConfusion (hgo.mp h.1).2.1]
    rfl
  | false =>
    rw [if_neg Bool.false_ne_true]
    by_cases hr : restOf (s.activeRecord i) = 0
    · have e : s.enterRest i = s.beginOnPhase i := if_pos hr
      have hat : s.goesOnAtOnce false (s.slot i).active := hgo.mpr ⟨hd, rfl, hr⟩
      rw [e, State.channel_beginOnPhase h]
      exact if_congr (and_iff_right hat).symm rfl rfl
    · have e : s.enterRest i = s.modSlot i _ := if_neg hr
      rw [e, if_neg fun h => hr (hgo.mp h.1).2.2]
      rfl

end Sys2Proof.Machine
end

section
/-!
SUPPORT. What a step can do to the part, said once. A row of the wires (a named command, a frame, a unit, a byte) changes
ports and wires and takes at most one command (`State.Takes`); a command or an event moves each context of the part along
one of a few ways (`Context.Goes`), stores a record, or resets the part (`State.Changes`).
-/

namespace Sys2Proof.Machine

/-! ## Rows of the wires -/

/-- Only ports, wires, part faults and the model's own counts may differ. -/
def State.OnlyWires (s t : State) : Prop :=
  t = { s with
    rack := t.rack, bench := t.bench, holderByte := t.holderByte, bus := t.bus, rdo := t.rdo, benchLine := t.benchLine
    partFaults := t.partFaults, freeUsed := t.freeUsed, pending := t.pending }

theorem State.OnlyWires.refl (s : State) : s.OnlyWires s := rfl

theorem State.OnlyWires.trans {s t u : State} (h : s.OnlyWires t) (h' : t.OnlyWires u) : s.OnlyWires u := by
  unfold State.OnlyWires at h h' ⊢
  rw [h] at h'
  exact h'

theorem State.onlyWires_modPort (s : State) (p : Party) (f : Port → Port) : s.OnlyWires (s.modPort p f) := by
  cases p <;> rfl

theorem State.onlyWires_answer (s : State) (p : Party) (code : Byte) (t : Nibble) (r : Reply) :
    s.OnlyWires (s.answer p code t r) := by
  rw [State.answer_eq]
  cases p <;> rfl

theorem State.onlyWires_raiseLink (s : State) (p : Party) : s.OnlyWires (s.raiseLink p) := by
  cases p <;> rfl

theorem State.onlyWires_abandonPartial (s : State) (p : Party) : s.OnlyWires (s.abandonPartial p) := by
  unfold State.abandonPartial
  split
  · rfl
  · exact (s.onlyWires_modPort ..).trans (State.onlyWires_raiseLink ..)

/-! ## The assemblers -/

/-- What an assembler awaits depends on the awaited count and the partial command alone. -/
theorem Port.assembly_congr {a b : Port} (ha : a.awaited = b.awaited) (hp : a.partialCommand = b.partialCommand) :
    a.assembly = b.assembly := by
  simp only [Port.assembly, ha, hp]

theorem State.assemblersStand_modPort {s : State} {p : Party} {f : Port → Port}
    (h : s.AssemblersStand) (hf : (f (s.port p)).assembly = true) : (s.modPort p f).AssemblersStand := by
  obtain ⟨hr, hb⟩ := h
  cases p
  · exact ⟨hf, hb⟩
  · exact ⟨hr, hf⟩

theorem State.AssemblersStand.port {s : State} (h : s.AssemblersStand) (p : Party) : (s.port p).assembly = true := by
  cases p
  · exact h.1
  · exact h.2

theorem State.assemblersStand_congr {s t : State} (h : s.AssemblersStand)
    (hr : t.rack.assembly = s.rack.assembly) (hb : t.bench.assembly = s.bench.assembly) : t.AssemblersStand :=
  ⟨hr.trans h.1, hb.trans h.2⟩

theorem State.assemblersStand_raiseLink {s : State} (h : s.AssemblersStand) (p : Party) :
    (s.raiseLink p).AssemblersStand := by
  cases p <;> exact h

theorem State.assemblersStand_answer {s : State} (h : s.AssemblersStand) (p : Party) (code : Byte) (t : Nibble)
    (r : Reply) : (s.answer p code t r).AssemblersStand := by
  rw [State.answer_eq]
  cases p <;> exact h

theorem State.assemblersStand_abandonPartial {s : State} (h : s.AssemblersStand) (p : Party) :
    (s.abandonPartial p).AssemblersStand := by
  unfold State.abandonPartial
  split
  · exact h
  · exact State.assemblersStand_raiseLink (State.assemblersStand_modPort h rfl) p

/-- A port that awaits one word more lacks just that word of its command. -/
theorem Port.assembly_some {port : Port} {pc : Partial} {n : Nat} (h : port.assembly = true)
    (hp : port.partialCommand = some pc) (hn : port.awaited = n + 1) :
    (pc.words ++ [w]).length + n = awaitedBy pc.code pc.arg := by
  simp only [Port.assembly, hp, hn, Bool.and_eq_true, decide_eq_true_eq] at h
  obtain ⟨-, h⟩ := h
  simp only [List.length_append, List.length_singleton]
  omega

theorem Cmd.operandWords_of_ofCode {code : Byte} {c : Cmd} (h : Cmd.ofCode code = some c) (arg : Nibble) :
    awaitedBy code arg = c.operandWords arg := by
  simp [awaitedBy, h]

/-! ## What a row of the wires does -/

/-- Ports and wires change, and at most one command is taken; the assemblers stand, and the command has its words. -/
inductive State.Takes (s t : State) : Prop
  | wires (h : s.OnlyWires t) (ha : s.AssemblersStand → t.AssemblersStand)
  | command {u : State} (c : Cmd) (p : Party) (target arg : Nibble) (ops : List Word)
      (hu : s.OnlyWires u) (hua : s.AssemblersStand → u.AssemblersStand)
      (hops : s.AssemblersStand → ops.length = c.operandWords arg)
      (ht : (Cmd.act c p target arg ops u).1.OnlyWires t)
      (hta : (Cmd.act c p target arg ops u).1.AssemblersStand → t.AssemblersStand)

theorem State.Takes.refl (s : State) : s.Takes s := .wires rfl id

/-- Wires that change before a row's own work. -/
theorem State.Takes.after {s s' t : State} (ht : s'.Takes t) (h : s.OnlyWires s')
    (ha : s.AssemblersStand → s'.AssemblersStand) : s.Takes t := by
  cases ht with
  | wires h' ha' => exact .wires (h.trans h') (ha' ∘ ha)
  | command c p target arg ops hu hua hops ht hta =>
    exact .command c p target arg ops (h.trans hu) (hua ∘ ha) (hops ∘ ha) ht hta

/-- A command that is taken from a state with the wires of `s` changed. -/
theorem State.takes_taken {s u : State} (c : Cmd) (p : Party) (target arg : Nibble) (ops : List Word)
    (hu : s.OnlyWires u) (hua : s.AssemblersStand → u.AssemblersStand)
    (hops : s.AssemblersStand → ops.length = c.operandWords arg) :
    s.Takes (u.taken p c target (Cmd.act c p target arg ops)) :=
  .command c p target arg ops hu hua hops (State.onlyWires_answer ..) fun h => State.assemblersStand_answer h ..

theorem State.takes_takeAssembled {s u : State} (p : Party) (code : Byte) (target arg : Nibble) (ops : List Word)
    (hu : s.OnlyWires u) (hua : s.AssemblersStand → u.AssemblersStand)
    (hops : s.AssemblersStand → ops.length = awaitedBy code arg) :
    s.Takes (u.takeAssembled p code target arg ops) := by
  unfold State.takeAssembled
  cases h : Cmd.ofCode code with
  | some c =>
    rw [Cmd.operandWords_of_ofCode h] at hops
    exact State.takes_taken c p target arg ops hu hua hops
  | none => exact .wires (hu.trans (State.onlyWires_answer ..)) fun h => State.assemblersStand_answer (hua h) ..

theorem State.takes_assembleHeader (s : State) (p : Party) (h : HeaderWord) : s.Takes (s.assembleHeader p h) := by
  have hu := s.onlyWires_abandonPartial p
  have hua : s.AssemblersStand → (s.abandonPartial p).AssemblersStand :=
    fun ha => State.assemblersStand_abandonPartial ha p
  unfold State.assembleHeader
  dsimp only
  split
  · exact State.takes_takeAssembled _ _ _ _ _ hu hua fun _ => by simp [*]
  · refine .wires (hu.trans (State.onlyWires_modPort ..)) fun ha => State.assemblersStand_modPort (hua ha) ?_
    simp [Port.assembly, *]

theorem State.takes_assembleData (s : State) (p : Party) (w : Word) : s.Takes (s.assembleData p w) := by
  unfold State.assembleData
  split
  next pc n hpc hn =>
    have hlen : s.AssemblersStand → (pc.words ++ [w]).length + n = awaitedBy pc.code pc.arg :=
      fun ha => Port.assembly_some (ha.port p) hpc hn
    split
    next h0 =>
      subst h0
      exact State.takes_takeAssembled _ _ _ _ _ (State.onlyWires_modPort ..)
        (fun ha => State.assemblersStand_modPort ha rfl) hlen
    next h0 =>
      refine .wires (State.onlyWires_modPort ..) fun ha => State.assemblersStand_modPort ha ?_
      have := hlen ha
      simp only [Port.assembly, Bool.and_eq_true, decide_eq_true_eq]
      omega
  next => exact .refl s

theorem State.takes_rackHeader (s : State) (clocks : Nat) (content : HeaderWord) (before : Bool) :
    s.Takes (s.rackHeader clocks content before) := by
  unfold State.rackHeader
  dsimp only
  split
  · exact .refl s
  split
  · exact (State.takes_assembleHeader ..).after rfl id
  · exact .wires rfl id

theorem State.takes_rackData (s : State) (clocks : Nat) (content : Word) (before : Bool) :
    s.Takes (s.rackData clocks content before) := by
  unfold State.rackData
  dsimp only
  split
  · exact .refl s
  split
  · exact (State.takes_assembleData ..).after rfl id
  · exact .wires rfl id

theorem State.takes_writeByte (s : State) (b : Byte) : s.Takes (s.writeByte b) := by
  unfold State.writeByte
  split
  · split <;> exact .wires rfl id
  · split
    · exact (State.takes_assembleHeader ..).after rfl id
    · exact .wires rfl id
  · exact (State.takes_assembleData ..).after rfl id
  all_goals exact .wires rfl id

/-- A part of a unit's first bytes has as many of them as it is long. -/
theorem Bus.restOfUnit_eq_some {bus : Bus} {bytes rest : List Byte} (h : bus.restOfUnit bytes = some rest) :
    ∃ unit, bus = .writing unit ∧ unit ++ rest = bytes := by
  cases bus with
  | writing unit =>
    simp only [Bus.restOfUnit] at h
    split at h
    next hp =>
      obtain ⟨tail, rfl⟩ := List.isPrefixOf_iff_prefix.mp hp
      exact ⟨unit, rfl, by simpa using h.symm⟩
    next => cases h
  | _ => cases h

/-- A header's two bytes put together again. -/
theorem headerBytes_join (h : HeaderWord) : (h.extractLsb' 8 8 ++ h.extractLsb' 0 8 : BitVec 16) = h := by
  apply BitVec.eq_of_getLsbD_eq
  intro k hk
  simp only [BitVec.getLsbD_append, BitVec.getLsbD_extractLsb']
  grind

/-- A word's four bytes put together again. -/
theorem dataBytes_join (w : Word) :
    (w.extractLsb' 24 8 ++ w.extractLsb' 16 8 ++ w.extractLsb' 8 8 ++ w.extractLsb' 0 8 : BitVec 32) = w := by
  apply BitVec.eq_of_getLsbD_eq
  intro k hk
  simp only [BitVec.getLsbD_append, BitVec.getLsbD_extractLsb']
  grind

/-- A whole header unit is nothing new, or the handing on of its header (R178). -/
theorem State.completeUnit_header (s : State) (h : HeaderWord) :
    s.completeUnit (headerBytes h) = s
      ∨ s.completeUnit (headerBytes h) =
          { s with bus := .writing [], benchLine := .acknowledged }.assembleHeader .bench h := by
  unfold State.completeUnit
  split
  next rest hr =>
    obtain ⟨unit, hb, hu⟩ := Bus.restOfUnit_eq_some hr
    match unit, hu with
    | [], hu =>
      obtain rfl : rest = headerBytes h := hu
      right
      simp [headerBytes, State.writeByte, hb, headerBytes_join]
    | [_], hu =>
      obtain ⟨rfl, rfl⟩ := List.cons.inj hu
      right
      simp [State.writeByte, hb, headerBytes_join]
    | [_, _], hu =>
      simp only [headerBytes, List.cons_append, List.nil_append, List.cons.injEq] at hu
      obtain ⟨rfl, rfl, rfl⟩ := hu
      right
      simp [State.writeByte, hb, headerBytes_join]
    | [_, _, _], hu =>
      simp only [headerBytes, List.cons_append, List.nil_append, List.cons.injEq] at hu
      obtain ⟨-, -, -, rfl⟩ := hu
      exact .inl rfl
    | _ :: _ :: _ :: _ :: _, hu => simp [headerBytes] at hu
  next => exact .inl rfl

/-- The same of a data unit. -/
theorem State.completeUnit_data (s : State) (w : Word) :
    s.completeUnit (dataBytes w) = s
      ∨ s.completeUnit (dataBytes w) =
          { s with bus := .writing [], benchLine := .acknowledged }.assembleData .bench w := by
  unfold State.completeUnit
  split
  next rest hr =>
    obtain ⟨unit, hb, hu⟩ := Bus.restOfUnit_eq_some hr
    match unit, hu with
    | [], hu =>
      obtain rfl : rest = dataBytes w := hu
      right
      simp [dataBytes, State.writeByte, hb, dataBytes_join]
    | [_], hu =>
      obtain ⟨rfl, rfl⟩ := List.cons.inj hu
      right
      simp [State.writeByte, hb, dataBytes_join]
    | [_, _], hu =>
      simp only [dataBytes, List.cons_append, List.nil_append, List.cons.injEq] at hu
      obtain ⟨rfl, rfl, rfl⟩ := hu
      right
      simp [State.writeByte, hb, dataBytes_join]
    | [_, _, _], hu =>
      simp only [dataBytes, List.cons_append, List.nil_append, List.cons.injEq] at hu
      obtain ⟨rfl, rfl, rfl, rfl⟩ := hu
      right
      simp [State.writeByte, hb, dataBytes_join]
    | [_, _, _, _], hu =>
      simp only [dataBytes, List.cons_append, List.nil_append, List.cons.injEq] at hu
      obtain ⟨rfl, rfl, rfl, rfl, rfl⟩ := hu
      right
      simp [State.writeByte, hb, dataBytes_join]
    | [_, _, _, _, _], hu =>
      simp only [dataBytes, List.cons_append, List.nil_append, List.cons.injEq] at hu
      obtain ⟨-, -, -, -, -, rfl⟩ := hu
      exact .inl rfl
    | _ :: _ :: _ :: _ :: _ :: _ :: _, hu => simp [dataBytes] at hu
  next => exact .inl rfl

theorem State.takes_completeUnit_header (s : State) (h : HeaderWord) : s.Takes (s.completeUnit (headerBytes h)) := by
  rcases s.completeUnit_header h with e | e
  · rw [e]; exact .refl s
  · rw [e]; exact (State.takes_assembleHeader ..).after rfl id

theorem State.takes_completeUnit_data (s : State) (w : Word) : s.Takes (s.completeUnit (dataBytes w)) := by
  rcases s.completeUnit_data w with e | e
  · rw [e]; exact .refl s
  · rw [e]; exact (State.takes_assembleData ..).after rfl id

theorem State.takes_endTransaction (s : State) (next : Bus) : s.Takes (s.endTransaction next) := by
  unfold State.endTransaction
  dsimp only
  split <;> exact .wires rfl id

theorem State.takes_addressByte (s : State) (b : Byte) : s.Takes (s.addressByte b) := by
  unfold State.addressByte
  repeat' split
  all_goals exact .wires rfl id

theorem State.takes_readByte (s : State) (acked : Bool) : s.Takes (s.readByte acked) := by
  unfold State.readByte
  split
  · exact .wires rfl id
  · split
    · exact .wires rfl id
    · refine .wires rfl fun ha => State.assemblersStand_congr ha rfl ?_
      exact Port.assembly_congr (by dsimp only; split <;> rfl) (by dsimp only; split <;> rfl)
  · exact .refl s

/-! ## Rows and events -/

/-- The events of the block's own, the shelf inputs, the RESET line and the logic supply: the rows that no port brings. -/
def isEvent : Instr → Bool
  | .sampleArrival .. | .pairSampleEvent .. | .onTimeExpiry _ | .bleedExpiry _ | .restExpiry _ | .endOfLead _
  | .drainCompletion _ | .holdTimerExpiry _ | .trimProgrammingCompletion | .heatAsserted | .heatReleased
  | .supplyLowAsserted | .supplyLowReleased | .resetLineAsserted | .resetLineReleased | .logicSupplyLoss
  | .powerOn => true
  | _ => false

theorem State.live_takes {f : State → State} (h : ∀ s : State, s.Takes (f s)) (s : State) :
    ∃ t, s.live f = .next t ∧ s.Takes t := by
  cases hh : s.held with
  | true => exact ⟨s, State.live_of_held f hh, .refl s⟩
  | false => exact ⟨f s, State.live_of_not_held f hh, h s⟩

theorem State.command_takes (s : State) (p : Party) (c : Cmd) (target arg : Nibble) (ops : List Word)
    (hops : ops.length = c.operandWords arg) :
    ∃ t, s.command p c target (Cmd.act c p target arg ops) = .next t ∧ s.Takes t :=
  State.live_takes (fun s => State.takes_taken c p target arg ops (.refl s) id fun _ => hops) s

/-- Every row but an event changes wires and takes at most one command. -/
theorem exec_takes (c : Instr) (s : State) (hc : isEvent c = false) : ∃ t, exec c s = .next t ∧ s.Takes t := by
  cases c with
  | bind p t a => exact s.command_takes p .bind t a [] rfl
  | unbind p t a => exact s.command_takes p .unbind t a [] rfl
  | start p t a => exact s.command_takes p .start t a [] rfl
  | stop p t a => exact s.command_takes p .stop t a [] rfl
  | ack p t a => exact s.command_takes p .ack t a [] rfl
  | drive p t a op => exact s.command_takes p .drive t a [op] rfl
  | setConv p t a op => exact s.command_takes p .setConv t a [op] rfl
  | slotInit p t a => exact s.command_takes p .slotInit t a [] rfl
  | status p t a => exact s.command_takes p .status t a [] rfl
  | summaryRead p t a => exact s.command_takes p .summaryRead t a [] rfl
  | take p t a => exact s.command_takes p .take t a [] rfl
  | release p t a => exact s.command_takes p .release t a [] rfl
  | holdTime p t a op => exact s.command_takes p .holdTime t a [op] rfl
  | evPeek p t a => exact s.command_takes p .evPeek t a [] rfl
  | evRetire p t a => exact s.command_takes p .evRetire t a [] rfl
  | evFree p t a => exact s.command_takes p .evFree t a [] rfl
  | evClear p t a => exact s.command_takes p .evClear t a [] rfl
  | faultRead p t a op => exact s.command_takes p .faultRead t a [op] rfl
  | alertMask p t a op => exact s.command_takes p .alertMask t a [op] rfl
  | profileWrite p t a ops =>
    refine s.command_takes p .profileWrite t a (ops.toList.take (profileWriteWords a)) ?_
    have : profileWriteWords a ≤ 30 := by unfold profileWriteWords; split <;> omega
    simpa [Cmd.operandWords] using this
  | profileRead p t a => exact s.command_takes p .profileRead t a [] rfl
  | pair p t a => exact s.command_takes p .pair t a [] rfl
  | partStatus p t a => exact s.command_takes p .partStatus t a [] rfl
  | setSampling p t a op => exact s.command_takes p .setSampling t a [op] rfl
  | trimSet p t a op => exact s.command_takes p .trimSet t a [op] rfl
  | trimRead p t a => exact s.command_takes p .trimRead t a [] rfl
  | trimProgram p t a => exact s.command_takes p .trimProgram t a [] rfl
  | deviceReset p t a => exact s.command_takes p .deviceReset t a [] rfl
  | rackHeaderFrame clocks content before => exact State.live_takes (fun s => s.takes_rackHeader clocks content before) s
  | rackDataFrame clocks content before => exact State.live_takes (fun s => s.takes_rackData clocks content before) s
  | benchStartCondition => exact State.live_takes (fun s => s.takes_endTransaction _) s
  | benchStopCondition => exact State.live_takes (fun s => s.takes_endTransaction _) s
  | benchAddressByte b => exact State.live_takes (fun s => s.takes_addressByte b) s
  | benchHeaderUnit content => exact State.live_takes (fun s => s.takes_completeUnit_header content) s
  | benchDataUnit content => exact State.live_takes (fun s => s.takes_completeUnit_data content) s
  | badKindByte b => exact State.live_takes (fun s => s.takes_writeByte b) s
  | benchReadByte acked => exact State.live_takes (fun s => s.takes_readByte acked) s
  | benchUnitByte b => exact State.live_takes (fun s => s.takes_writeByte b) s
  | _ => exact Bool.noConfusion hc

end Sys2Proof.Machine
end

section
/-!
SUPPORT. How the contexts of the part change: the ways a context goes in one step, and, for every command and event, that
each context it leaves has gone one of those ways.
-/

namespace Sys2Proof.Machine

/-- The states of a run: RUN-ON, its off-phase, and a pause (1.2). -/
def SlotState.inRun : SlotState → Bool
  | .runOn | .runBleed | .runRest | .paused => true
  | .idle | .manual | .drain | .faulted => false

/-- The ways a context `c` goes in one step, `rec` giving the record of each binding: what becomes of its state, its binding
and its completed-cycle count. -/
inductive Context.Goes (rec : Option (Fin 16) → ProfileRecord) (c c' : Context) : Prop
  /-- It stands, whatever else of it changes. -/
  | stands (hs : c'.state = c.state) (hb : c'.bound = c.bound) (hd : c'.d = c.d)
  /-- It comes to IDLE, DRAIN or FAULTED with its binding (R12 to R14, R16). -/
  | stops (hs : c'.state.needsProfile = false) (hb : c'.bound = c.bound)
  /-- It is without a binding, at rest or draining: unbound, discarded or new (R5, R21, R149, R154). -/
  | unbinds (hs : c'.state.needsProfile = false) (hb : c'.bound = none)
  /-- It is bound in IDLE (R4). -/
  | binds (p : Fin 16) (hs : c'.state = .idle) (hb : c'.bound = some p) (hp : (rec (some p)).isEmpty = false)
  /-- It enters MANUAL (R18). -/
  | drives (hs : c'.state = .manual) (hb : c'.bound = c.bound) (hsome : c.bound.isSome = true)
  /-- Its run starts (R6). -/
  | starts (hs : c'.state = .runOn) (hb : c'.bound = c.bound) (hsome : c.bound.isSome = true) (hd : c'.d = 0)
  /-- Its run is paused (R19, R156). -/
  | pauses (hc : c.state.inRun = true) (hs : c'.state = .paused) (hb : c'.bound = c.bound) (hd : c'.d = c.d)
  /-- Its run goes on to a rest or an on-phase (R12, R20, R156). -/
  | goesOn (hc : c.state.inRun = true) (hn : c.state = .runRest ∨ ¬ runDone (rec c.bound) c.d)
      (hs : c'.state = .runRest ∨ c'.state = .runOn) (hb : c'.bound = c.bound) (hd : c'.d = c.d)
  /-- Its on-phase is counted, and a bleed, a rest or an on-phase follows (R10, R12). -/
  | counts (hc : c.state = .runOn) (hd : c'.d = if c.d < 65535 then c.d + 1 else 65535) (hb : c'.bound = c.bound)
      (hs : c'.state = .runBleed ∨ ((c'.state = .runRest ∨ c'.state = .runOn) ∧ ¬ runDone (rec c.bound) c'.d))

theorem Context.Goes.refl (rec : Option (Fin 16) → ProfileRecord) (c : Context) : c.Goes rec c := .stands rfl rfl rfl

/-- A context of a slot, active or parked. -/
def Slot.Has (sl : Slot) (c : Context) : Prop := sl.active = c ∨ sl.parked = some c

/-- Contexts, records and ports are as they were. -/
structure State.SameContexts (s t : State) : Prop where
  active : ∀ i, (t.slot i).active = (s.slot i).active
  parked : ∀ i, (t.slot i).parked = (s.slot i).parked
  records : ∀ p, (t.profile p).record = (s.profile p).record
  rack : t.rack = s.rack
  bench : t.bench = s.bench

/-- Every context has come from one of its slot's, along one of the ways; records and ports are as they were. -/
structure State.Moves (s t : State) : Prop where
  moves : ∀ i c', (t.slot i).Has c' → ∃ c, (s.slot i).Has c ∧ c.Goes s.recordOf c'
  records : ∀ p, (t.profile p).record = (s.profile p).record
  rack : t.rack = s.rack
  bench : t.bench = s.bench

/-- What a command or event can do: contexts go their ways; a record is stored at a profile that no context uses, within
the store's ranges where its write had its words (`fits`); or the part is reset. -/
inductive State.Changes (fits : Prop) (s t : State) : Prop
  | moves (h : s.Moves t)
  | stores (q : Fin 16) (hslots : ∀ i, t.slot i = s.slot i) (hu : (s.profile q).useCount = 0)
      (hq : fits → (t.profile q).record.InRange)
      (hne : ∀ p, p ≠ q → (t.profile p).record = (s.profile p).record)
      (rack : t.rack = s.rack) (bench : t.bench = s.bench)
  | resets (hslots : ∀ i, (t.slot i).active = Context.reset ∧ (t.slot i).parked = none)
      (hrecords : ∀ p, (t.profile p).record = (s.profile p).record ∨ (t.profile p).record = ProfileRecord.zeros)
      (rack : t.rack = Port.reset) (bench : t.bench = Port.reset)

/-! ## Records -/

theorem State.recordOf_congr {s t : State} (h : ∀ p, (t.profile p).record = (s.profile p).record) :
    t.recordOf = s.recordOf := by
  funext b
  cases b with
  | none => rfl
  | some p => exact h p

@[simp] theorem State.record_releaseBinding (s : State) (i : Fin 8) (q : Fin 16) :
    ((s.releaseBinding i).profile q).record = (s.profile q).record := by
  rw [s.profile_releaseBinding i q]

@[simp] theorem State.recordOf_releaseBinding (s : State) (i : Fin 8) : (s.releaseBinding i).recordOf = s.recordOf :=
  State.recordOf_congr (s.record_releaseBinding i)

/-! ## Contexts that stand -/

theorem State.SameContexts.refl (s : State) : s.SameContexts s := ⟨fun _ => rfl, fun _ => rfl, fun _ => rfl, rfl, rfl⟩

theorem State.SameContexts.trans {s t u : State} (h : s.SameContexts t) (h' : t.SameContexts u) : s.SameContexts u :=
  ⟨fun i => (h'.active i).trans (h.active i), fun i => (h'.parked i).trans (h.parked i),
    fun p => (h'.records p).trans (h.records p), h'.rack.trans h.rack, h'.bench.trans h.bench⟩

theorem State.SameContexts.has {s t : State} (h : s.SameContexts t) (i : Fin 8) (c : Context) :
    (t.slot i).Has c ↔ (s.slot i).Has c := by
  simp only [Slot.Has, h.active, h.parked]

theorem State.SameContexts.moves {s t : State} (h : s.SameContexts t) : s.Moves t :=
  ⟨fun i c' hc => ⟨c', (h.has i c').mp hc, .refl ..⟩, h.records, h.rack, h.bench⟩

theorem State.Moves.refl (s : State) : s.Moves s := (State.SameContexts.refl s).moves

theorem State.Moves.after {s u t : State} (h : u.Moves t) (hs : s.SameContexts u) : s.Moves t := by
  refine ⟨fun i c' hc => ?_, fun p => (h.records p).trans (hs.records p), h.rack.trans hs.rack,
    h.bench.trans hs.bench⟩
  obtain ⟨c, hhas, hgoes⟩ := h.moves i c' hc
  rw [State.recordOf_congr hs.records] at hgoes
  exact ⟨c, (hs.has i c).mp hhas, hgoes⟩

theorem State.Moves.then {s u t : State} (h : s.Moves u) (hs : u.SameContexts t) : s.Moves t :=
  ⟨fun i c' hc => h.moves i c' ((hs.has i c').mp hc), fun p => (hs.records p).trans (h.records p),
    hs.rack.trans h.rack, hs.bench.trans h.bench⟩

theorem State.sameContexts_modSlot {s : State} {i : Fin 8} {f : Slot → Slot}
    (ha : (f (s.slot i)).active = (s.slot i).active) (hp : (f (s.slot i)).parked = (s.slot i).parked) :
    s.SameContexts (s.modSlot i f) := by
  refine ⟨fun j => ?_, fun j => ?_, fun _ => rfl, rfl, rfl⟩ <;>
    (rw [State.slot_modSlot]; split)
  · subst_vars; exact ha
  · rfl
  · subst_vars; exact hp
  · rfl

theorem State.sameContexts_modChannel (s : State) (i : Fin 8) (f : Channel → Channel) :
    s.SameContexts (s.modChannel i f) := ⟨fun _ => rfl, fun _ => rfl, fun _ => rfl, rfl, rfl⟩

theorem State.sameContexts_modPair (s : State) (q : Fin 4) (f : Pair → Pair) : s.SameContexts (s.modPair q f) :=
  ⟨fun _ => rfl, fun _ => rfl, fun _ => rfl, rfl, rfl⟩

theorem State.sameContexts_restartHold (s : State) (p : Party) (i : Fin 8) : s.SameContexts (s.restartHold p i) := by
  unfold State.restartHold
  split
  · exact State.sameContexts_modSlot rfl rfl
  · exact .refl s

theorem State.sameContexts_setHolder (s : State) (i : Fin 8) (p : Party) : s.SameContexts (s.setHolder i p) := by
  refine ⟨fun j => ?_, fun j => ?_, fun q => ?_, ?_, ?_⟩
  · rw [State.slot_setHolder]
  · rw [State.slot_setHolder]
  · rw [State.setHolder_frame]; rfl
  · rw [State.setHolder_frame]
  · rw [State.setHolder_frame]

/-! ## One slot's contexts -/

/-- The work of one slot moves contexts where that slot's contexts go their ways. -/
theorem State.WorksAt.moves {i : Fin 8} {s t : State} (hw : State.WorksAt i s t)
    (hrec : ∀ p, (t.profile p).record = (s.profile p).record)
    (hi : ∀ c', (t.slot i).Has c' → ∃ c, (s.slot i).Has c ∧ c.Goes s.recordOf c') : s.Moves t := by
  obtain ⟨hslot, hframe⟩ := hw
  refine ⟨fun j c' hc => ?_, hrec, by rw [hframe], by rw [hframe]⟩
  by_cases hj : j = i
  · subst hj
    exact hi c' hc
  · rw [hslot j hj] at hc
    exact ⟨c', hc, .refl ..⟩

/-- The same where the parked context stands. -/
theorem State.WorksAt.moves_active {i : Fin 8} {s t : State} (hw : State.WorksAt i s t)
    (hrec : ∀ p, (t.profile p).record = (s.profile p).record)
    (hp : (t.slot i).parked = (s.slot i).parked)
    (ha : (s.slot i).active.Goes s.recordOf (t.slot i).active) : s.Moves t := by
  refine hw.moves hrec fun c' hc => ?_
  rcases hc with rfl | hc
  · exact ⟨_, .inl rfl, ha⟩
  · exact ⟨c', .inr (hp ▸ hc), .refl ..⟩

theorem State.RunsAt.moves {i : Fin 8} {s t : State} (h : State.RunsAt i s t)
    (hp : (t.slot i).parked = (s.slot i).parked)
    (ha : (s.slot i).active.Goes s.recordOf (t.slot i).active) : s.Moves t :=
  h.worksAt.moves_active (fun p => by rw [h.profile]) hp ha

theorem State.moves_modSlot {s : State} {i : Fin 8} {f : Slot → Slot}
    (hp : (f (s.slot i)).parked = (s.slot i).parked)
    (ha : (s.slot i).active.Goes s.recordOf (f (s.slot i)).active) : s.Moves (s.modSlot i f) := by
  refine (s.runsAt_modSlot i f).moves ?_ ?_ <;> rw [State.slot_modSlot_self] <;> assumption

/-! ## The slot engine -/

@[simp] theorem State.goneOn_parked (s : State) (i : Fin 8) (hold : Bool) (sl : Slot) (c : Context) :
    (s.goneOn i hold sl c).parked = sl.parked := by
  unfold State.goneOn
  dsimp only
  repeat' split
  all_goals rfl

/-- A run that goes on from the context `c` stops, pauses, rests or begins an on-phase. -/
theorem State.goes_goneOn (s : State) (i : Fin 8) (hold : Bool) (sl : Slot) {c : Context}
    (hc : c.state.inRun = true) : c.Goes s.recordOf (s.goneOn i hold sl c).active := by
  unfold State.goneOn
  dsimp only
  split
  · exact .stops rfl rfl
  next hn =>
    split
    · exact .pauses hc rfl rfl rfl
    split
    · exact .goesOn hc (.inr hn) (.inl rfl) rfl rfl
    · exact .goesOn hc (.inr hn) (.inr rfl) rfl rfl

theorem State.moves_resumeRun {s : State} {i : Fin 8} (hold : Bool) (hc : (s.slot i).active.state.inRun = true) :
    s.Moves (s.resumeRun i hold) := by
  refine (s.runsAt_resumeRun i hold).moves ?_ ?_ <;> rw [State.slot_resumeRun]
  · exact s.goneOn_parked ..
  · exact s.goes_goneOn _ _ _ hc

theorem State.slot_enterOffPhase (s : State) (i : Fin 8) :
    (s.enterOffPhase i).slot i =
      if (s.activeRecord i).bleed ≠ 0 then
        (s.slot i).inState .runBleed (freshTimer (s.activeRecord i).bleed) none
      else s.goneOn i false (s.slot i) (s.slot i).active := by
  rw [State.enterOffPhase_eq]
  split
  · simp only [State.slot_modSlot_self]; rfl
  · exact s.slot_resumeRun i false

@[simp] theorem State.parked_enterOffPhase (s : State) (i : Fin 8) :
    ((s.enterOffPhase i).slot i).parked = (s.slot i).parked := by
  rw [State.slot_enterOffPhase]
  split
  · rfl
  · exact s.goneOn_parked ..

/-- The off-phase that follows the counting of an on-phase of the context `c`. -/
theorem State.goes_enterOffPhase {s : State} {i : Fin 8} {c : Context} (hc : c.state = .runOn)
    (hb : (s.slot i).active.bound = c.bound)
    (hd : (s.slot i).active.d = if c.d < 65535 then c.d + 1 else 65535) :
    c.Goes s.recordOf ((s.enterOffPhase i).slot i).active := by
  rw [State.slot_enterOffPhase]
  split
  · exact .counts hc hd hb (.inl rfl)
  unfold State.goneOn
  dsimp only
  split
  · exact .stops rfl hb
  next hn =>
    rw [hb] at hn
    rw [if_neg Bool.false_ne_true]
    split
    · exact .counts hc hd hb (.inr ⟨.inl rfl, hn⟩)
    · exact .counts hc hd hb (.inr ⟨.inr rfl, hn⟩)

/-- An update of a slot is that slot's new value. -/
theorem State.modSlot_eq_const (s : State) (i : Fin 8) (f : Slot → Slot) :
    s.modSlot i f = s.modSlot i fun _ => f (s.slot i) := rfl

/-- A slot whose on-phase has just been counted (R10, R84): its summary is formed and D has risen. -/
def State.countedCycle (s : State) (i : Fin 8) (v : Verdict) : Slot :=
  let out := (s.slot i).formSummary (s.env i) v (completesRun (s.activeRecord i) (s.slot i).active)
  { out with active := out.active.countCycle }

theorem State.countOnPhase_eq (s : State) (i : Fin 8) (v : Verdict) :
    s.countOnPhase i v = (s.modSlot i fun _ => s.countedCycle i v).enterOffPhase i := by
  unfold State.countOnPhase
  exact congrArg (fun u => State.enterOffPhase u i) (s.modSlot_eq_const i _)

theorem State.countedCycle_active (s : State) (i : Fin 8) (v : Verdict) :
    (s.countedCycle i v).active.bound = (s.slot i).active.bound
      ∧ (s.countedCycle i v).active.d =
          (if (s.slot i).active.d < 65535 then (s.slot i).active.d + 1 else 65535)
      ∧ (s.countedCycle i v).parked = (s.slot i).parked := by
  refine ⟨?_, ?_, ?_⟩ <;> unfold State.countedCycle <;> dsimp only
  · simp [Context.countCycle, Context.shiftSummary]
  · simp [Context.countCycle_d, Context.shiftSummary]
  · simp

theorem State.moves_countOnPhase {s u : State} {i : Fin 8} {v : Verdict} (h : State.RunsAt i s u)
    (hs : (s.slot i).active.state = .runOn) (hb : (u.slot i).active.bound = (s.slot i).active.bound)
    (hd : (u.slot i).active.d = (s.slot i).active.d) (hp : (u.slot i).parked = (s.slot i).parked) :
    s.Moves (u.countOnPhase i v) := by
  obtain ⟨hb', hd', hp'⟩ := u.countedCycle_active i v
  have hslot : (u.modSlot i fun _ => u.countedCycle i v).slot i = u.countedCycle i v := u.slot_modSlot_self ..
  refine (h.trans (u.runsAt_countOnPhase i v)).moves ?_ ?_ <;> rw [State.countOnPhase_eq]
  · rw [State.parked_enterOffPhase, hslot, hp', hp]
  · have hrec : State.recordOf (u.modSlot i fun _ => u.countedCycle i v) = s.recordOf := funext h.recordOf
    have hgoes := State.goes_enterOffPhase (s := u.modSlot i fun _ => u.countedCycle i v) (i := i) hs
      (by rw [hslot, hb', hb]) (by rw [hslot, hd', hd])
    rw [hrec] at hgoes
    exact hgoes

theorem State.moves_onTimeExpiry (s : State) (i : Fin 8) : s.Moves (s.onTimeExpiry i) := by
  unfold State.onTimeExpiry
  dsimp only
  split
  next hs =>
    refine State.moves_countOnPhase (s.runsAt_modSlot ..) hs ?_ ?_ ?_ <;>
      rw [State.slot_modSlot_self, Slot.closeWalk_eq] <;> split <;> simp [Slot.failed_active]
  next => exact .refl s

theorem State.moves_bleedExpiry (s : State) (i : Fin 8) : s.Moves (s.bleedExpiry i) := by
  rw [State.bleedExpiry_eq]
  split
  next h => exact State.moves_resumeRun false (by rw [h]; rfl)
  next => exact .refl s

theorem State.moves_restExpiry (s : State) (i : Fin 8) : s.Moves (s.restExpiry i) := by
  unfold State.restExpiry
  split
  next h =>
    refine (s.runsAt_beginOnPhase i).moves ?_ ?_ <;> rw [State.slot_beginOnPhase]
    · rfl
    · exact .goesOn (by rw [h]; rfl) (.inl h) (.inr rfl) rfl rfl
  next => exact .refl s

theorem State.moves_endOfLead (s : State) (i : Fin 8) : s.Moves (s.endOfLead i) := by
  unfold State.endOfLead
  split
  · exact State.moves_modSlot rfl (.stands rfl rfl rfl)
  · exact .refl s

theorem State.moves_enterDrain (s : State) (i : Fin 8) (x : DrainNext) : s.Moves (s.enterDrain i x) := by
  refine (s.runsAt_enterDrain i x).moves ?_ ?_ <;> rw [State.slot_enterDrain]
  · rfl
  · exact .stops rfl rfl

/-- An on-phase abandoned, then a drain. -/
theorem State.moves_abandon_enterDrain (s : State) (i : Fin 8) (v : Verdict) (x : DrainNext) :
    s.Moves ((s.abandonOnPhase i v).enterDrain i x) := by
  refine ((s.runsAt_abandonOnPhase i v).trans (State.runsAt_enterDrain ..)).moves ?_ ?_ <;>
    rw [State.slot_enterDrain, State.slot_abandonOnPhase]
  · simp [Slot.inState]
  · exact .stops rfl (by simp [Slot.inState, Context.shiftSummary])

theorem State.moves_pauseSlot (s : State) (i : Fin 8) : s.Moves (s.pauseSlot i) := by
  unfold State.pauseSlot
  split
  next h =>
    refine ((s.runsAt_abandonOnPhase i _).trans (State.runsAt_modSlot ..)).moves ?_ ?_ <;>
      rw [State.slot_modSlot_self, State.slot_abandonOnPhase]
    · simp
    · exact .pauses (by rw [h]; rfl) rfl (by simp [Context.shiftSummary]) (by simp [Context.shiftSummary])
  next h => exact State.moves_modSlot rfl (.pauses (by rw [h]; rfl) rfl rfl rfl)
  next h => exact State.moves_modSlot rfl (.pauses (by rw [h]; rfl) rfl rfl rfl)
  next => exact (State.moves_modSlot rfl (.stops rfl rfl)).then (State.sameContexts_modPair ..)
  all_goals exact .refl s

theorem State.moves_resumeSlot (s : State) (i : Fin 8) : s.Moves (s.resumeSlot i) := by
  rw [State.resumeSlot_eq]
  split
  next h => exact State.moves_resumeRun false (by rw [h]; rfl)
  next => exact .refl s

/-! ## Restoring -/

@[simp] theorem State.parked_settleRestored (s : State) (i : Fin 8) :
    ((s.settleRestored i).slot i).parked = (s.slot i).parked := by
  rw [State.settleRestored_eq]
  split
  · simp
  iterate 4 exact (congrArg Slot.parked (s.slot_resumeRun i _)).trans (s.goneOn_parked ..)
  all_goals simp

theorem State.goes_settleRestored (s : State) (i : Fin 8) :
    (s.slot i).active.Goes s.recordOf ((s.settleRestored i).slot i).active := by
  have hrun (h : (s.slot i).active.state.inRun = true) :
      (s.slot i).active.Goes s.recordOf ((s.resumeRun i s.shelfHold).slot i).active := by
    rw [State.slot_resumeRun]
    exact s.goes_goneOn _ _ _ h
  rw [State.settleRestored_eq]
  split
  next => rw [State.slot_modSlot_self]; exact .stops rfl rfl
  next h => exact hrun (by rw [h]; rfl)
  next h => exact hrun (by rw [h]; rfl)
  next h => exact hrun (by rw [h]; rfl)
  next h => exact hrun (by rw [h]; rfl)
  all_goals rw [State.slot_modSlot_self]; exact .stops rfl rfl

theorem State.profile_settleRestored (s : State) (i : Fin 8) (q : Fin 16) :
    (s.settleRestored i).profile q = s.profile q := by
  rw [State.settleRestored_eq]
  split
  · rfl
  iterate 4 exact (s.runsAt_resumeRun i _).profile q
  all_goals rfl

/-- A slot with its context in hand and its parking place empty. -/
theorem State.moves_restore (s : State) (i : Fin 8) : s.Moves (s.restore i) := by
  refine (s.worksAt_restore i).moves (fun p => ?_) fun c' hc => ?_ <;> unfold State.restore at * <;> dsimp only at *
  · split
    · simp
    · rw [State.profile_settleRestored]; simp
  · split at hc
    next hp =>
      refine ⟨_, .inl rfl, ?_⟩
      rcases hc with rfl | hc
      · rw [State.slot_modSlot_self]
        exact .unbinds rfl rfl
      · rw [State.slot_modSlot_self, hp] at hc
        cases hc
    next c hp =>
      have hp' : (s.slot i).parked = some c := by
        rw [State.slot_releaseBinding, if_pos rfl] at hp
        exact hp
      refine ⟨c, .inr hp', ?_⟩
      rcases hc with rfl | hc
      · have h := State.goes_settleRestored
          ((s.releaseBinding i).modSlot i fun sl => { sl with active := c, parked := none }) i
        rw [State.slot_modSlot_self] at h
        have hrec : State.recordOf ((s.releaseBinding i).modSlot i fun sl => { sl with active := c, parked := none })
            = s.recordOf := s.recordOf_releaseBinding i
        rw [hrec] at h
        exact h
      · rw [State.parked_settleRestored, State.slot_modSlot_self] at hc
        cases hc

theorem State.moves_drainCompletion (s : State) (i : Fin 8) : s.Moves (s.drainCompletion i) := by
  unfold State.drainCompletion
  split
  · split
    · exact State.moves_modSlot rfl (.stops rfl rfl)
    · exact s.moves_restore i
    · exact State.moves_modSlot rfl (.stops rfl rfl)
    · exact State.moves_modSlot rfl (.stops rfl rfl)
  · exact .refl s

end Sys2Proof.Machine
end

section
/-!
SUPPORT. Samples at a slot: the trip check by the table of R120, the counted sample, and what a stage that fails does.
-/

namespace Sys2Proof.Machine

/-! ## The counted sample -/

theorem ProfileRecord.isSurge_iff (r : ProfileRecord) (k : Nat) :
    r.isSurge k = true ↔ r.surgeCode = 255 ∨ k ≤ 16 * r.surgeCode := by
  simp [ProfileRecord.isSurge]

theorem ProfileRecord.phaseLimit_eq (r : ProfileRecord) (k : Nat) :
    r.phaseLimit k = if r.surgeCode = 255 ∨ k ≤ 16 * r.surgeCode then r.surgeLimit else r.soakLimit := by
  simp only [ProfileRecord.phaseLimit, ProfileRecord.isSurge_iff]

/-- No open check where the threshold is 0 or the board is reported already (R126, R127). -/
theorem Slot.openCheck_unchecked {sl : Slot} {env : Env}
    (h : ¬ (env.record.openThreshold ≠ 0 ∧ sl.active.openReported = false)) : sl.openCheck env = sl := by
  refine if_pos ?_
  by_cases h0 : env.record.openThreshold = 0
  · exact .inl h0
  · exact .inr (by simpa [h0] using h)

/-- The open count after a check (R126). -/
def Slot.openCountAfter (sl : Slot) (current threshold : Nat) : Nat :=
  if current < threshold then sl.openCount + 1 else 0

theorem Slot.openCheck_checked {sl : Slot} {env : Env}
    (h : env.record.openThreshold ≠ 0 ∧ sl.active.openReported = false) :
    sl.openCheck env =
      let count := sl.openCountAfter env.current env.record.openThreshold
      if 64 ≤ count then
        { (({ sl with openCount := count }.raise .opened).push
            (sl.recordOf sl.active.k env.current (.opened env.record.openThreshold))) with
          active := { sl.active with openReported := true } }
      else { sl with openCount := count } := by
  have hn : ¬ (env.record.openThreshold = 0 ∨ sl.active.openReported = true) := by simp [h.1, h.2]
  refine (if_neg hn).trans ?_
  simp only [Slot.push_active]
  rfl

/-- A counted sample as far as the accumulators, as the statements write it. -/
theorem Slot.takeCounted_eq (sl : Slot) (env : Env) :
    sl.takeCounted env = sl.counted env.record env.current := by
  have hcount : ∀ c, ({ sl with active := c } : Slot).openCountAfter env.current env.record.openThreshold =
    if env.current < env.record.openThreshold then sl.openCount + 1 else 0 := fun _ => rfl
  unfold Slot.takeCounted Slot.counted
  dsimp only
  by_cases hs : env.record.surgeCode = 255 ∨ min (sl.active.k + 1) 4294967295 ≤ 16 * env.record.surgeCode
  · have hb : env.record.isSurge sl.active.countSample.k = true := (env.record.isSurge_iff _).mpr hs
    rw [if_pos hb]
    simp only [hs, not_true_eq_false, false_and, if_false]
    rfl
  have hb : ¬ env.record.isSurge sl.active.countSample.k = true := mt (env.record.isSurge_iff _).mp hs
  rw [if_neg hb]
  by_cases hc : env.record.openThreshold ≠ 0 ∧ sl.active.openReported = false
  · rw [Slot.openCheck_checked (by exact hc)]
    have hpush : ∀ (c : Context) (n : Nat) (r : Record), c.conv = sl.active.conv →
        ({ sl with active := c, openCount := n }.raise .opened).push r =
          { ({ sl with openCount := n }.raise .opened).push r with active := c } :=
      fun c n r h => Slot.push_with_active (Slot.raise { sl with openCount := n } .opened) c r h
    by_cases h64 : 64 ≤ if env.current < env.record.openThreshold then sl.openCount + 1 else 0
    · simp only [hcount, hs, hc, h64, not_false_eq_true, ne_eq, and_self, if_true]
      rw [hpush _ _ _ (by rfl)]
      rfl
    · simp only [hcount, hs, hc, h64, not_false_eq_true, ne_eq, and_self, and_false, if_true, if_false]
      rw [show sl.active.countSample.openReported = false from hc.2]
      rfl
  · rw [Slot.openCheck_unchecked (by exact hc)]
    simp only [hs, hc, and_false, false_and, if_false]
    rfl

/-- What the checker makes of a counted sample at slot `i` (R58, R60). -/
def State.checkerOut (s : State) (i : Fin 8) : Checker × Option Cause :=
  let r := s.activeRecord i
  let k := ((s.slot i).counted r (s.inputCurrent i)).active.k
  (s.slot i).active.checker.step r.stages
    (if r.surgeCode = 255 ∨ k ≤ 16 * r.surgeCode then r.surgeLimit else r.soakLimit) (s.inputCurrent i)

/-- Slot `i` with a counted sample taken by the checker too. -/
def State.countedSlot (s : State) (i : Fin 8) : Slot :=
  let sl := (s.slot i).counted (s.activeRecord i) (s.inputCurrent i)
  { sl with active := { sl.active with checker := (s.checkerOut i).1 } }

theorem State.checkSample_counted (s : State) (i : Fin 8) :
    ((s.slot i).takeCounted (s.env i)).checkSample (s.env i) =
      match (s.checkerOut i).2 with
      | none => (s.countedSlot i, false)
      | some cause => ((s.countedSlot i).failed (s.activeRecord i) (s.inputCurrent i) cause, true) := by
  have hout : ((s.slot i).counted (s.activeRecord i) (s.inputCurrent i)).active.checker.step (s.activeRecord i).stages
      ((s.activeRecord i).phaseLimit ((s.slot i).counted (s.activeRecord i) (s.inputCurrent i)).active.k)
      (s.inputCurrent i) = s.checkerOut i := by
    rw [ProfileRecord.phaseLimit_eq]
    rfl
  rw [Slot.takeCounted_eq]
  unfold Slot.checkSample
  simp only [State.env, hout, Slot.failStage_eq]
  cases (s.checkerOut i).2 <;> rfl

/-- A counted sample at which no stage fails. -/
theorem State.countedSample_of_pass {s : State} {i : Fin 8} (h : (s.checkerOut i).2 = none) :
    s.countedSample i = s.modSlot i fun _ => s.countedSlot i := by
  unfold State.countedSample
  simp only [State.checkSample_counted, h, Bool.false_eq_true, if_false]

/-- A counted sample at which the open stage fails (R68, R71 to R73). -/
theorem State.countedSample_of_fail {s : State} {i : Fin 8} {cause : Cause} (h : (s.checkerOut i).2 = some cause) :
    s.countedSample i =
      (s.modSlot i fun _ => (s.countedSlot i).failed (s.activeRecord i) (s.inputCurrent i) cause).applyOnFail i := by
  unfold State.countedSample
  simp only [State.checkSample_counted, h, if_true]

/-- Counting a sample leaves the state, the binding and D of the context, and what the slot keeps parked. -/
theorem State.countedSlot_kept (s : State) (i : Fin 8) :
    (s.countedSlot i).active.state = (s.slot i).active.state ∧ (s.countedSlot i).active.bound = (s.slot i).active.bound
      ∧ (s.countedSlot i).active.d = (s.slot i).active.d ∧ (s.countedSlot i).parked = (s.slot i).parked := by
  refine ⟨rfl, rfl, rfl, ?_⟩
  unfold State.countedSlot Slot.counted
  dsimp only
  rw [apply_ite Slot.parked]
  simp

/-! ## The trip check -/

theorem pairOf_eq_iff (ch i : Fin 8) : pairOf ch = pairOf i ↔ ch = lowerOf (pairOf i) ∨ ch = upperOf (pairOf i) := by
  revert ch i
  decide

/-- The check of a channel among those of a sample, if it has one. -/
def checkOf (checks : List TripCheck) (ch : Fin 8) : Option TripCheck := checks.find? fun t => decide (t.channel = ch)

/-- The checks of a sample at a fed slot are those of the table of R120. -/
theorem State.appliedLevel_eq {s : State} {i : Fin 8}
    (hs : (s.slot i).active.state = .runOn ∨ (s.slot i).active.state = .manual) (ch : Fin 8) :
    s.appliedLevel i ch = (checkOf (s.tripChecks i) ch).map TripCheck.level := by
  have hne : lowerOf (pairOf i) ≠ upperOf (pairOf i) := lowerOf_ne_upperOf _ _
  unfold State.appliedLevel State.tripChecks checkOf
  dsimp only
  cases s.mode i with
  | separate => by_cases h : ch = i <;> simp [h, eq_comm]
  | gang =>
    simp only [pairOf_eq_iff]
    by_cases hx : ch = lowerOf (pairOf i)
    · simp [hx]
    · by_cases hy : ch = upperOf (pairOf i)
      · simp [hy, hne]
      · simp [hx, hy, eq_comm]
  | dual =>
    have hchecks (b : Bool) (x y : Nat) :
        Option.map TripCheck.level (List.find? (fun t => decide (t.channel = ch))
          (({ channel := lowerOf (pairOf i), name := .lower, level := x } : TripCheck) ::
            if b then [{ channel := upperOf (pairOf i), name := .upper, level := y }] else [])) =
          if ch = lowerOf (pairOf i) then some x
          else if ch = upperOf (pairOf i) then if b then some y else none else none := by
      by_cases hx : ch = lowerOf (pairOf i)
      · simp [hx]
      · by_cases hy : ch = upperOf (pairOf i) <;> cases b <;> simp [hx, hy, hne, eq_comm]
    rcases hs with h | h
    · simp only [h]
      cases hsub : (s.slot i).active.subPhase with
      | none => simpa using (hchecks true _ _).symm
      | some p =>
        cases p with
        | lead => simpa using (hchecks false _ 0).symm
        | surge => simpa using (hchecks true _ _).symm
        | soak => simpa using (hchecks true _ _).symm
    · simp only [h]
      cases (s.pair (pairOf i)).rails with
      | none => simp
      | some q =>
        cases q with
        | standbyOnly => simpa using (hchecks false _ 0).symm
        | both => simpa using (hchecks true _ _).symm

/-- No channel is checked twice at a sample. -/
theorem State.tripChecks_nodup (s : State) (i : Fin 8) : ((s.tripChecks i).map TripCheck.channel).Nodup := by
  have hne : lowerOf (pairOf i) ≠ upperOf (pairOf i) := lowerOf_ne_upperOf _ _
  unfold State.tripChecks
  dsimp only
  repeat' split
  all_goals simp [hne]

theorem State.tripCheck_level {s : State} {i : Fin 8}
    (hs : (s.slot i).active.state = .runOn ∨ (s.slot i).active.state = .manual) {t : TripCheck}
    (ht : t ∈ s.tripChecks i) : s.appliedLevel i t.channel = some t.level := by
  have hfind : checkOf (s.tripChecks i) t.channel = some t := by
    have hnd := s.tripChecks_nodup i
    revert ht hnd
    unfold checkOf
    induction s.tripChecks i with
    | nil => intro ht; cases ht
    | cons x rest ih =>
      intro ht hnd
      rw [List.map_cons, List.nodup_cons] at hnd
      rcases List.mem_cons.mp ht with rfl | ht
      · simp
      · have hx : x.channel ≠ t.channel := fun e => hnd.1 (e ▸ List.mem_map_of_mem ht)
        rw [List.find?_cons_of_neg (by simpa using hx)]
        exact ih ht hnd.2
  rw [State.appliedLevel_eq hs, hfind]
  rfl

@[simp] theorem State.slot_countTrips (s : State) (checks : List TripCheck) (j : Fin 8) :
    (s.countTrips checks).slot j = s.slot j := by
  unfold State.countTrips
  induction checks generalizing s with
  | nil => rfl
  | cons t rest ih => exact ih _

/-- A channel after the checks of a sample, none of which checks it twice (R121). -/
theorem State.channel_countTrips (s : State) {checks : List TripCheck}
    (hnd : (checks.map TripCheck.channel).Nodup) (ch : Fin 8) :
    (s.countTrips checks).channel ch =
      match (checkOf checks ch).map TripCheck.level with
      | none => s.channel ch
      | some level => (s.channel ch).countTrip level := by
  induction checks generalizing s with
  | nil => rfl
  | cons t rest ih =>
    rw [List.map_cons, List.nodup_cons] at hnd
    have hstep : s.countTrips (t :: rest) = (s.modChannel t.channel fun c => c.countTrip t.level).countTrips rest := rfl
    rw [hstep, ih _ hnd.2]
    by_cases h : t.channel = ch
    · have hnone : checkOf rest ch = none := by
        refine List.find?_eq_none.mpr fun x hx => ?_
        intro hxc
        exact hnd.1 (h ▸ of_decide_eq_true hxc ▸ List.mem_map_of_mem hx)
      have hsome : checkOf (t :: rest) ch = some t := List.find?_cons_of_pos (by simpa using h)
      rw [hnone, hsome, ← h]
      simp
    · have hrest : checkOf (t :: rest) ch = checkOf rest ch := List.find?_cons_of_neg (by simpa using h)
      rw [hrest, State.channel_modChannel_ne _ _ (Ne.symm h)]

/-- The trip counts after the checks of a sample at a fed slot. -/
theorem State.channel_countTrips_sample {s : State} {i : Fin 8}
    (hs : (s.slot i).active.state = .runOn ∨ (s.slot i).active.state = .manual) (ch : Fin 8) :
    (s.countTrips (s.tripChecks i)).channel ch = { s.channel ch with tripCount := s.countAfter i ch } := by
  rw [State.channel_countTrips s (s.tripChecks_nodup i), ← State.appliedLevel_eq hs]
  unfold State.countAfter
  cases s.appliedLevel i ch <;> rfl

/-- No check trips where no channel does. -/
theorem State.tripped_eq_none {s : State} {i : Fin 8}
    (hs : (s.slot i).active.state = .runOn ∨ (s.slot i).active.state = .manual) (h : ∀ ch, ¬ s.trips i ch) :
    (s.countTrips (s.tripChecks i)).tripped (s.tripChecks i) (s.activeRecord i).tripDebounce = none := by
  refine List.find?_eq_none.mpr fun t ht hcount => h t.channel ⟨?_, ?_⟩
  · rw [State.tripCheck_level hs ht]
    rfl
  · rw [State.channel_countTrips_sample hs] at hcount
    exact of_decide_eq_true hcount

/-! ## A sample at a slot -/

theorem State.sampleAtSlot_of_unfed {s : State} {i : Fin 8} (h : (s.slot i).active.state ≠ .runOn)
    (h' : (s.slot i).active.state ≠ .manual) : s.sampleAtSlot i = s := by
  unfold State.sampleAtSlot
  split
  next e => exact absurd e h
  next e => exact absurd e h'
  all_goals rfl

/-- A sample at a fed slot: its channels are checked, then it trips, or is counted by the state. -/
theorem State.sampleAtSlot_of_fed {s : State} {i : Fin 8}
    (hs : (s.slot i).active.state = .runOn ∨ (s.slot i).active.state = .manual) :
    s.sampleAtSlot i =
      let v := s.countTrips (s.tripChecks i)
      match v.tripped (s.tripChecks i) (s.activeRecord i).tripDebounce with
      | some t => v.trip i t
      | none =>
        if (s.slot i).active.state = .manual then v.modSlot i fun sl => { sl with active := sl.active.countSample }
        else if (s.slot i).active.subPhase = some .lead then v
        else v.countedSample i := by
  have hslot := s.slot_countTrips (s.tripChecks i) i
  have hrec : (s.countTrips (s.tripChecks i)).activeRecord i = s.activeRecord i := by
    rw [State.activeRecord, hslot, (s.runsAt_countTrips i _).recordOf]
    rfl
  unfold State.sampleAtSlot
  rcases hs with e | e <;> simp only [e, hslot, hrec] <;> rfl

/-- The same where no channel trips: counted in MANUAL, checked alone in LEAD, else counted and checked. -/
theorem State.sampleAtSlot_of_no_trip {s : State} {i : Fin 8}
    (hs : (s.slot i).active.state = .runOn ∨ (s.slot i).active.state = .manual) (h : ∀ ch, ¬ s.trips i ch) :
    s.sampleAtSlot i =
      let v := s.countTrips (s.tripChecks i)
      if (s.slot i).active.state = .manual then v.modSlot i fun sl => { sl with active := sl.active.countSample }
      else if (s.slot i).active.subPhase = some .lead then v
      else v.countedSample i := by
  rw [State.sampleAtSlot_of_fed hs]
  dsimp only
  rw [State.tripped_eq_none hs h]

/-! ## How a sample moves the contexts -/

theorem State.moves_trip (s : State) (i : Fin 8) (t : TripCheck) : s.Moves (s.trip i t) := by
  have hnoted : State.RunsAt i s ((s.recordTrip i t).clearTrips i) :=
    (s.runsAt_modSlot ..).trans (State.runsAt_clearTrips ..)
  have hslot : ((s.recordTrip i t).clearTrips i).slot i = _ :=
    (State.slot_clearTrips ..).trans (s.slot_modSlot_self i _)
  unfold State.trip
  dsimp only
  refine State.Moves.then ?_ (State.sameContexts_modPair ..)
  split
  · refine ((hnoted.trans (State.runsAt_abandonOnPhase ..)).trans (State.runsAt_enterDrain ..)).moves ?_ ?_ <;>
      rw [State.slot_enterDrain, State.slot_abandonOnPhase, hslot]
    · simp [Slot.inState]
    · exact .stops rfl (by simp [Slot.inState, Context.shiftSummary])
  · refine (hnoted.trans (State.runsAt_enterDrain ..)).moves ?_ ?_ <;> rw [State.slot_enterDrain, hslot]
    · simp [Slot.inState]
    · exact .stops rfl (by simp [Slot.inState])

theorem State.moves_countedSample {s u : State} {i : Fin 8} (h : State.RunsAt i s u) (hslot : u.slot i = s.slot i)
    (hs : (s.slot i).active.state = .runOn) : s.Moves (u.countedSample i) := by
  obtain ⟨hst, hb, hd, hp⟩ := u.countedSlot_kept i
  rw [hslot] at hst hb hd hp
  cases hout : (u.checkerOut i).2 with
  | none =>
    rw [State.countedSample_of_pass hout]
    refine (h.trans (u.runsAt_modSlot ..)).moves ?_ ?_ <;> rw [State.slot_modSlot_self]
    · exact hp
    · exact .stands hst hb hd
  | some cause =>
    rw [State.countedSample_of_fail hout]
    generalize hfailed : (u.countedSlot i).failed (u.activeRecord i) (u.inputCurrent i) cause = failed
    have hactive : failed.active.state = (s.slot i).active.state ∧ failed.active.bound = (s.slot i).active.bound
        ∧ failed.active.d = (s.slot i).active.d := by
      rw [← hfailed, Slot.failed_active]
      exact ⟨hst, hb, hd⟩
    have hparked : failed.parked = (s.slot i).parked := by rw [← hfailed, Slot.failed_parked, hp]
    obtain ⟨hst', hb', hd'⟩ := hactive
    have hw : State.RunsAt i s (u.modSlot i fun _ => failed) := h.trans (u.runsAt_modSlot ..)
    have hself : (u.modSlot i fun _ => failed).slot i = failed := u.slot_modSlot_self ..
    generalize u.modSlot i (fun _ => failed) = w at hw hself
    unfold State.applyOnFail
    split
    · refine hw.moves ?_ ?_ <;> rw [hself]
      · exact hparked
      · exact .stands hst' hb' hd'
    · exact State.moves_countOnPhase hw hs (by rw [hself, hb']) (by rw [hself, hd']) (by rw [hself, hparked])
    · refine ((hw.trans (State.runsAt_abandonOnPhase ..)).trans (State.runsAt_enterDrain ..)).moves ?_ ?_ <;>
        rw [State.slot_enterDrain, State.slot_abandonOnPhase, hself]
      · simp [Slot.inState, hparked]
      · exact .stops rfl (by simp [Slot.inState, Context.shiftSummary, hb'])

theorem State.moves_sampleAtSlot (s : State) (i : Fin 8) : s.Moves (s.sampleAtSlot i) := by
  have hv := s.runsAt_countTrips i (s.tripChecks i)
  have hslot := s.slot_countTrips (s.tripChecks i) i
  have hsame : s.SameContexts (s.countTrips (s.tripChecks i)) :=
    ⟨fun j => by simp, fun j => by simp, fun p => by rw [hv.profile], by rw [hv.2.2], by rw [hv.2.2]⟩
  by_cases hs : (s.slot i).active.state = .runOn ∨ (s.slot i).active.state = .manual
  · rw [State.sampleAtSlot_of_fed hs]
    dsimp only
    generalize s.countTrips (s.tripChecks i) = u at hv hslot hsame
    split
    · exact (u.moves_trip i _).after hsame
    split
    · exact (State.moves_modSlot rfl (.stands rfl rfl rfl)).after hsame
    next hm =>
      split
      · exact hsame.moves
      · exact State.moves_countedSample hv hslot (hs.resolve_right hm)
  · rw [State.sampleAtSlot_of_unfed (fun e => hs (.inl e)) fun e => hs (.inr e)]
    exact .refl s

theorem State.moves_sampleArrival (s : State) (ch : Fin 8) (code : SenseCode) : s.Moves (s.sampleArrival ch code) := by
  unfold State.sampleArrival
  split
  · exact .refl s
  · exact (State.moves_sampleAtSlot ..).after (s.sameContexts_modChannel ..)

theorem State.moves_pairSample (s : State) (pr : Fin 4) (x y : SenseCode) : s.Moves (s.pairSample pr x y) := by
  unfold State.pairSample
  split
  · exact (State.moves_sampleAtSlot ..).after
      ((s.sameContexts_modChannel ..).trans (State.sameContexts_modChannel ..))
  · exact .refl s

end Sys2Proof.Machine
end

section
/-!
SUPPORT. What every command and every event does to the contexts, the store and the ports (`State.Changes`), and so what
every step does.
-/

namespace Sys2Proof.Machine

/-! ## Acceptance -/

@[simp] theorem State.reply_fst (s : State) (st : Status) : (s.reply st).1 = s := rfl

theorem State.Moves.reply {s t : State} (h : s.Moves t) (st : Status) : s.Moves (t.reply st).1 := h

theorem State.SameContexts.reply {s t : State} (h : s.SameContexts t) (st : Status) : s.SameContexts (t.reply st).1 := h

theorem State.sameContexts_clearRails (s : State) (i : Fin 8) : s.SameContexts (s.clearRails i) :=
  s.sameContexts_modPair ..

theorem State.moves_onHeldSlot {act : Fin 8 → State → State × Reply} (h : ∀ (i : Fin 8) (u : State), u.Moves (act i u).1)
    (s : State)
    (p : Party) (target : Nibble) : s.Moves (s.onHeldSlot p target act).1 := by
  rcases s.onHeldSlot_cases p target act with ⟨-, e⟩ | ⟨i, -, ⟨-, e⟩ | ⟨-, -, e⟩ | ⟨-, -, e⟩⟩ <;> rw [e]
  · exact .refl s
  · exact .refl s
  · exact .refl s
  · exact (h i _).after (s.sameContexts_restartHold p i)

theorem State.sameContexts_onAnySlot (s : State) (p : Party) (target : Nibble) (report : Fin 8 → State → Reply) :
    s.SameContexts (s.onAnySlot p target report).1 := by
  unfold State.onAnySlot
  split
  · exact .refl s
  · exact s.sameContexts_restartHold p _

theorem State.sameContexts_partWide {act : State → State × Reply} (h : ∀ u : State, u.SameContexts (act u).1) (s : State)
    (p : Party) : s.SameContexts (s.partWide p act).1 := by
  rcases s.partWide_cases p act with ⟨-, e⟩ | ⟨-, -, e⟩ | ⟨-, -, -, e⟩ <;> rw [e]
  · exact .refl s
  · exact .refl s
  · exact h s

/-! ## Bindings -/

theorem State.profile_bindTo (s : State) (i : Fin 8) (p q : Fin 16) :
    (s.bindTo i p).profile q =
      { s.profile q with
        useCount :=
          if (s.slot i).active.bound = some p then (s.profile q).useCount
          else if q = p then (s.profile q).useCount + 1
          else if (s.slot i).active.bound = some q then (s.profile q).useCount - 1
          else (s.profile q).useCount } := by
  unfold State.bindTo
  by_cases hb : (s.slot i).active.bound = some p
  · simp [hb]
  · rw [if_neg hb, State.profile_modSlot, State.profile_modProfile]
    by_cases hq : q = p
    · subst hq
      rw [if_pos rfl, s.profile_releaseBinding i q]
      simp [hb]
    · rw [if_neg hq, s.profile_releaseBinding i q]
      simp [hb, hq]

theorem State.slot_bindTo (s : State) (i : Fin 8) (p : Fin 16) :
    (s.bindTo i p).slot i = { s.slot i with active := { (s.slot i).active with bound := some p } } := by
  unfold State.bindTo
  by_cases hb : (s.slot i).active.bound = some p
  · rw [if_pos hb, ← hb]
  · simp [hb, State.slot_releaseBinding]

theorem State.moves_bindTo {s : State} {i : Fin 8} {p : Fin 16} (hs : (s.slot i).active.state = .idle)
    (hp : (s.profile p).record.isEmpty = false) : s.Moves (s.bindTo i p) := by
  refine (s.worksAt_bindTo i p).moves_active (fun q => ?_) ?_ ?_
  · rw [s.profile_bindTo]
  · rw [s.slot_bindTo]
  · rw [s.slot_bindTo]
    exact .binds p hs rfl hp

theorem State.moves_releaseBinding {s : State} {i : Fin 8} (h : (s.slot i).active.state.needsProfile = false) :
    s.Moves (s.releaseBinding i) := by
  refine (s.worksAt_releaseBinding i).moves_active (fun p => by simp) ?_ ?_ <;>
    rw [State.slot_releaseBinding, if_pos rfl]
  exact .unbinds h rfl

/-! ## The slot commands -/

theorem moves_cmdBind (p : Party) (target arg : Nibble) (s : State) : s.Moves (cmdBind p target arg s).1 := by
  refine State.moves_onHeldSlot (fun i u => ?_) s p target
  split
  · exact .refl u
  split
  · exact .refl u
  next hs he =>
    exact (State.moves_bindTo (not_not.mp hs) (Bool.eq_false_iff.mpr he)).reply _

theorem moves_cmdUnbind (p : Party) (target arg : Nibble) (s : State) : s.Moves (cmdUnbind p target arg s).1 := by
  refine State.moves_onHeldSlot (fun i u => ?_) s p target
  split
  next h => exact State.moves_releaseBinding (by rw [h]; rfl)
  next h => exact State.moves_releaseBinding (by rw [h]; rfl)
  next => exact .refl u

theorem moves_cmdStart (p : Party) (target arg : Nibble) (s : State) : s.Moves (cmdStart p target arg s).1 := by
  refine State.moves_onHeldSlot (fun i u => ?_) s p target
  dsimp only
  split
  · exact .refl u
  split
  · exact .refl u
  split
  · exact .refl u
  split
  · exact .refl u
  next hb _ =>
    refine ((u.runsAt_modSlot i _).trans (State.runsAt_beginOnPhase _ i)).moves ?_ ?_ <;>
      rw [State.slot_beginOnPhase, State.slot_modSlot_self]
    · rfl
    · exact .starts rfl rfl (Option.isSome_iff_ne_none.mpr hb) rfl

theorem moves_cmdStop (p : Party) (target arg : Nibble) (s : State) : s.Moves (cmdStop p target arg s).1 := by
  refine State.moves_onHeldSlot (fun i u => ?_) s p target
  split
  · exact u.moves_abandon_enterDrain i _ _
  · exact State.Moves.reply (State.moves_modSlot rfl (.stops rfl rfl)) _
  · exact State.Moves.reply (State.moves_modSlot rfl (.stops rfl rfl)) _
  · exact State.Moves.reply (State.moves_modSlot rfl (.stops rfl rfl)) _
  · exact State.Moves.reply ((u.moves_enterDrain i _).then (State.sameContexts_clearRails _ i)) _
  all_goals exact .refl u

theorem moves_cmdAck (p : Party) (target arg : Nibble) (s : State) : s.Moves (cmdAck p target arg s).1 := by
  refine State.moves_onHeldSlot (fun i u => ?_) s p target
  split
  · split
    · exact .refl u
    · exact State.Moves.reply (State.moves_modSlot rfl (.stops rfl rfl)) _
  all_goals exact .refl u

theorem State.worksAt_enterManual (s : State) (i : Fin 8) (rails : Option Rails) :
    State.WorksAt i s (s.enterManual i rails) :=
  ((s.worksAt_modSlot ..).trans (State.worksAt_clearTrips ..)).trans (State.worksAt_modPair ..)

theorem State.slot_enterManual (s : State) (i : Fin 8) (rails : Option Rails) :
    (s.enterManual i rails).slot i = (s.slot i).enterManual := by
  unfold State.enterManual
  rw [State.slot_modPair, State.slot_clearTrips, State.slot_modSlot_self]

theorem State.profile_enterManual (s : State) (i : Fin 8) (rails : Option Rails) (q : Fin 16) :
    (s.enterManual i rails).profile q = s.profile q := by
  unfold State.enterManual
  rw [State.profile_modPair, (State.runsAt_clearTrips _ i).profile]
  rfl

theorem moves_driveSlot (form : DriveForm) (i : Fin 8) (s : State) : s.Moves (driveSlot form i s).1 := by
  unfold driveSlot
  split
  · split
    · exact .refl s
    split
    · exact .refl s
    next hb _ =>
      refine (s.worksAt_enterManual i _).moves_active (fun q => by rw [s.profile_enterManual]) ?_ ?_ <;>
        rw [State.slot_enterManual]
      · rfl
      · exact .drives rfl rfl (Option.isSome_iff_ne_none.mpr hb)
  · exact s.moves_enterDrain i _
  · exact .refl s
  · exact State.Moves.reply (s.sameContexts_modPair (pairOf i) _).moves _
  · exact (s.moves_enterDrain i .idle).then (State.sameContexts_clearRails _ i)
  · exact (State.moves_modSlot rfl (.stops rfl rfl)).then (State.sameContexts_clearRails _ i)
  · exact .refl s

theorem moves_cmdDrive (p : Party) (target arg : Nibble) (op : Word) (s : State) :
    s.Moves (cmdDrive p target arg op s).1 := by
  unfold cmdDrive
  repeat' split
  · exact .refl s
  · exact .refl s
  · exact .refl s
  · exact State.moves_onHeldSlot (fun i u => moves_driveSlot _ i u) s p target

theorem moves_cmdSetConv (p : Party) (target arg : Nibble) (op : Word) (s : State) :
    s.Moves (cmdSetConv p target arg op s).1 :=
  State.moves_onHeldSlot (fun _ _ => State.Moves.reply (State.moves_modSlot rfl (.stands rfl rfl rfl)) _) s p target

theorem State.worksAt_slotInit (s : State) (i : Fin 8) :
    State.WorksAt i s ((s.releaseBinding i).modSlot i Slot.initialise) :=
  (s.worksAt_releaseBinding i).trans (State.worksAt_modSlot ..)

theorem State.slot_slotInit (s : State) (i : Fin 8) :
    ((s.releaseBinding i).modSlot i Slot.initialise).slot i = (s.slot i).initialise := by
  rw [State.slot_modSlot_self, State.slot_releaseBinding, if_pos rfl]
  rfl

theorem moves_cmdSlotInit (p : Party) (target arg : Nibble) (s : State) : s.Moves (cmdSlotInit p target arg s).1 := by
  have hinit (i : Fin 8) (u : State) : u.Moves ((u.releaseBinding i).modSlot i Slot.initialise) := by
    refine (u.worksAt_slotInit i).moves_active (fun q => by simp) ?_ ?_ <;> rw [State.slot_slotInit]
    · rfl
    · exact .unbinds rfl rfl
  refine State.moves_onHeldSlot (fun i u => ?_) s p target
  split
  · exact hinit i u
  · exact hinit i u
  · exact .refl u

/-! ## Holds -/

theorem freshContext_kept (r : ProfileRecord) (c : Context) :
    (freshContext r c).state.needsProfile = false ∧ (freshContext r c).bound = none := by
  unfold freshContext
  split <;> exact ⟨rfl, rfl⟩

/-- A parked context is in the state it was parked in, but for a manual drive's, which is IDLE (R148). -/
theorem Context.goes_park (rec : Option (Fin 16) → ProfileRecord) (c : Context) : c.Goes rec c.park := by
  cases h : c.state
  case manual => exact .stops (by rw [Context.park, h]; rfl) rfl
  all_goals exact .stands (by rw [Context.park, Context.enter_state, h]; rfl) rfl rfl

/-- A slot handed over to the bench: its own context is parked, a new one active. -/
theorem State.moves_handOver (s : State) (i : Fin 8) (r : ProfileRecord) :
    s.Moves (s.modSlot i fun sl => sl.handOver r) := by
  refine (s.worksAt_modSlot i _).moves (fun _ => rfl) fun c' hc => ⟨_, .inl rfl, ?_⟩
  rw [State.slot_modSlot_self] at hc
  rcases hc with rfl | hc
  · obtain ⟨hs, hb⟩ := freshContext_kept r (s.slot i).active
    exact .unbinds hs hb
  · cases hc
    exact Context.goes_park ..

/-- The end of an on-phase that is not counted leaves the contexts, but for their summaries. -/
theorem State.moves_handOver_abandoned (s : State) (i : Fin 8) (v : Verdict) (r : ProfileRecord) :
    s.Moves ((s.abandonOnPhase i v).modSlot i fun sl => sl.handOver r) := by
  refine ((s.worksAt_abandonOnPhase i v).trans (State.worksAt_modSlot ..)).moves (fun _ => rfl)
    fun c' hc => ⟨_, .inl rfl, ?_⟩
  rw [State.slot_modSlot_self, State.slot_abandonOnPhase] at hc
  rcases hc with rfl | hc
  · obtain ⟨hs, hb⟩ := freshContext_kept r ((s.slot i).formSummary (s.env i) v false).active
    exact .unbinds hs hb
  · cases hc
    rw [Slot.formSummary_active]
    generalize hm : (s.slot i).active.shiftSummary _ = c
    have hc : c.state = (s.slot i).active.state ∧ c.bound = (s.slot i).active.bound ∧ c.d = (s.slot i).active.d := by
      rw [← hm]
      exact ⟨rfl, rfl, rfl⟩
    obtain ⟨hs, hb, hd⟩ := hc
    cases h : c.state
    case manual => exact .stops (by rw [Context.park, h]; rfl) hb
    all_goals exact .stands (by rw [Context.park, Context.enter_state, h, ← hs, h]; rfl) hb hd

theorem State.moves_takeSlot (s : State) (i : Fin 8) : s.Moves (s.takeSlot i) := by
  unfold State.takeSlot
  dsimp only
  refine State.Moves.then (State.Moves.then (State.Moves.then ?_ (State.sameContexts_modPair ..))
    (State.sameContexts_setHolder ..)) (State.sameContexts_modSlot rfl rfl)
  split
  · exact s.moves_handOver_abandoned i _ _
  · exact s.moves_handOver i _

theorem moves_cmdTake (p : Party) (target arg : Nibble) (s : State) : s.Moves (cmdTake p target arg s).1 := by
  unfold cmdTake
  split
  · exact .refl s
  repeat' split
  · exact .refl s
  · exact .refl s
  · exact .refl s
  · exact (s.sameContexts_restartHold p _).moves
  · exact s.moves_takeSlot _
  · exact .refl s

/-- The bench's context is discarded for a drain to RESTORE. -/
theorem State.moves_drainToRestore {s u : State} {i : Fin 8} (h : State.WorksAt i s u)
    (hrec : ∀ p, (u.profile p).record = (s.profile p).record) (hp : (u.slot i).parked = (s.slot i).parked)
    (timer : Option Timer) : s.Moves (u.drainToRestore i timer) := by
  refine ((h.trans (u.worksAt_releaseBinding i)).trans (State.worksAt_modSlot ..)).moves_active
    (fun p => ?_) ?_ ?_
  · simp [hrec]
  · rw [State.slot_modSlot_self, State.slot_releaseBinding, if_pos rfl]
    exact hp
  · rw [State.slot_modSlot_self]
    exact .unbinds rfl rfl

theorem State.moves_endBenchContext (s : State) (i : Fin 8) : s.Moves (s.endBenchContext i) := by
  have hdrain (timer : Option Timer) : s.Moves (s.drainToRestore i timer) :=
    State.moves_drainToRestore (.refl i s) (fun _ => rfl) rfl timer
  unfold State.endBenchContext
  dsimp only
  split
  · exact State.moves_drainToRestore (s.worksAt_abandonOnPhase i _) (fun _ => rfl) (by simp) _
  · exact (hdrain _).then (State.sameContexts_modPair ..)
  · exact hdrain _
  · exact hdrain _
  all_goals exact s.moves_restore i

theorem State.moves_endBenchHold (s : State) (i : Fin 8) : s.Moves (s.endBenchHold i) :=
  ((s.moves_endBenchContext i).then (State.sameContexts_setHolder ..)).then (State.sameContexts_modSlot rfl rfl)

theorem State.moves_holdExpiry (s : State) (i : Fin 8) : s.Moves (s.holdExpiry i) := by
  unfold State.holdExpiry
  split
  · exact (s.moves_endBenchHold i).then (State.sameContexts_modSlot rfl rfl)
  · exact .refl s

theorem moves_cmdRelease (p : Party) (target arg : Nibble) (s : State) : s.Moves (cmdRelease p target arg s).1 := by
  unfold cmdRelease
  split
  · exact .refl s
  repeat' split
  · exact .refl s
  · exact .refl s
  · exact .refl s
  · exact s.moves_endBenchHold _

/-! ## Pairs -/

/-- A PAIR up to the standing aside: only the upper slot's binding, channels and the pair have changed. -/
theorem State.setPair_eq (s : State) (pr : Fin 4) (mode : PairMode) :
    ∃ u : State, (s.releaseBinding (upperOf pr)).SameContexts u ∧ State.WorksAt (upperOf pr) s u
      ∧ s.setPair pr mode =
          if mode = .separate then u
          else u.modSlot (upperOf pr) fun sl => sl.standAside (u.slot (lowerOf pr)).holder := by
  refine ⟨_, ?_, ?_, rfl⟩
  · refine ((State.sameContexts_modPair _ pr fun _ => { mode := mode, rails := none }).trans ?_).trans
      ((State.sameContexts_modChannel _ (lowerOf pr) _).trans (State.sameContexts_modChannel _ (upperOf pr) _))
    split
    · exact (State.sameContexts_modChannel ..).trans (State.sameContexts_modChannel ..)
    · exact .refl _
  · refine (((s.worksAt_releaseBinding _).trans
      (State.worksAt_modPair _ pr _ fun _ => { mode := mode, rails := none })).trans ?_).trans
      ((State.worksAt_modChannel _ (lowerOf pr) _ _).trans (State.worksAt_modChannel _ (upperOf pr) _ _))
    split
    · exact (State.worksAt_modChannel ..).trans (State.worksAt_modChannel ..)
    · exact .refl ..

/-- A taken PAIR unbinds the upper slot, which is at rest, and drops its walk. -/
theorem State.moves_setPair {s : State} {pr : Fin 4} (mode : PairMode)
    (h : (s.slot (upperOf pr)).active.state = .idle) : s.Moves (s.setPair pr mode) := by
  obtain ⟨u, hsame, hw, e⟩ := s.setPair_eq pr mode
  have hu : s.Moves u := (State.moves_releaseBinding (by rw [h]; rfl)).then hsame
  have hactive : (u.slot (upperOf pr)).active = { (s.slot (upperOf pr)).active with bound := none } := by
    rw [hsame.active, State.slot_releaseBinding, if_pos rfl]
  have hparked : (u.slot (upperOf pr)).parked = (s.slot (upperOf pr)).parked := by
    rw [hsame.parked, State.slot_releaseBinding, if_pos rfl]
  rw [e]
  split
  · exact hu
  · refine (hw.trans (State.worksAt_modSlot ..)).moves_active hu.records ?_ ?_ <;>
      rw [State.slot_modSlot_self] <;> unfold Slot.standAside
    · exact hparked
    · rw [hactive]
      exact .unbinds (by dsimp only; rw [h]; rfl) rfl

theorem Slot.pairable_idle {sl : Slot} (h : sl.pairable = true) : sl.active.state = .idle := by
  simp only [Slot.pairable, Bool.and_eq_true, decide_eq_true_eq] at h
  exact h.1

theorem moves_cmdPair (p : Party) (target arg : Nibble) (s : State) : s.Moves (cmdPair p target arg s).1 := by
  unfold cmdPair
  split
  · dsimp only
    split
    · exact .refl s
    split
    next h =>
      rw [Bool.and_eq_true] at h
      exact (State.moves_setPair _ (Slot.pairable_idle h.2)).after (s.sameContexts_restartHold ..)
    · exact (s.sameContexts_restartHold ..).moves
  · exact .refl s

/-! ## Commands that leave every context -/

theorem Slot.releaseWithheld_kept (sl : Slot) :
    sl.releaseWithheld.active = sl.active ∧ sl.releaseWithheld.parked = sl.parked := by
  unfold Slot.releaseWithheld
  split <;> simp

theorem Slot.readFaults_kept (sl : Slot) (p : Party) (mask : BitVec 7) (clears : Bool) :
    (sl.readFaults p mask clears).active = sl.active ∧ (sl.readFaults p mask clears).parked = sl.parked := by
  unfold Slot.readFaults
  dsimp only
  repeat' split
  all_goals simp [Slot.releaseWithheld_kept]

theorem sameContexts_cmdSummaryRead (p : Party) (target arg : Nibble) (s : State) :
    s.SameContexts (cmdSummaryRead p target arg s).1 := by
  unfold cmdSummaryRead
  split
  · exact .refl s
  · exact s.sameContexts_onAnySlot ..

theorem sameContexts_cmdHoldTime (p : Party) (target arg : Nibble) (op : Word) (s : State) :
    s.SameContexts (cmdHoldTime p target arg op s).1 := by
  unfold cmdHoldTime
  repeat' split
  · exact .refl s
  · exact .refl s
  all_goals exact ⟨fun _ => rfl, fun _ => rfl, fun _ => rfl, rfl, rfl⟩

theorem sameContexts_cmdEvPeek (p : Party) (target arg : Nibble) (s : State) :
    s.SameContexts (cmdEvPeek p target arg s).1 := by
  unfold cmdEvPeek
  split
  · exact .refl s
  · exact s.sameContexts_onAnySlot ..

theorem State.moves_onStack {remove : Slot → Slot × Status}
    (h : ∀ sl, (remove sl).1.active = sl.active ∧ (remove sl).1.parked = sl.parked) (s : State) (p : Party)
    (target : Nibble) : s.Moves (s.onStack p target remove).1 := by
  refine State.moves_onHeldSlot (fun i u => ?_) s p target
  split
  · exact .refl u
  · exact State.Moves.reply (State.sameContexts_modSlot (h _).1 (h _).2).moves _

theorem moves_cmdEvFree (p : Party) (target arg : Nibble) (s : State) : s.Moves (cmdEvFree p target arg s).1 := by
  unfold cmdEvFree
  split
  · exact .refl s
  · exact State.moves_onStack (fun _ => ⟨rfl, rfl⟩) s p target

theorem sameContexts_cmdFaultRead (p : Party) (target arg : Nibble) (op : Word) (s : State) :
    s.SameContexts (cmdFaultRead p target arg op s).1 := by
  unfold cmdFaultRead
  split
  · exact ⟨fun _ => rfl, fun _ => rfl, fun _ => rfl, rfl, rfl⟩
  split
  · exact .refl s
  · dsimp only
    exact (s.sameContexts_restartHold p _).trans
      (State.sameContexts_modSlot (Slot.readFaults_kept ..).1 (Slot.readFaults_kept ..).2)

theorem sameContexts_cmdAlertMask (p : Party) (target arg : Nibble) (op : Word) (s : State) :
    s.SameContexts (cmdAlertMask p target arg op s).1 := by
  unfold cmdAlertMask
  split
  · exact .refl s
  · cases p <;> exact ⟨fun _ => rfl, fun _ => rfl, fun _ => rfl, rfl, rfl⟩

theorem sameContexts_cmdPartStatus (p : Party) (target arg : Nibble) (s : State) :
    s.SameContexts (cmdPartStatus p target arg s).1 := by
  unfold cmdPartStatus
  split <;> exact .refl s

theorem sameContexts_cmdSetSampling (p : Party) (target arg : Nibble) (op : Word) (s : State) :
    s.SameContexts (cmdSetSampling p target arg op s).1 := by
  unfold cmdSetSampling
  split
  · exact .refl s
  · exact State.sameContexts_partWide (fun u => ⟨fun _ => rfl, fun _ => rfl, fun _ => rfl, rfl, rfl⟩) s p

theorem sameContexts_cmdTrimSet (p : Party) (target arg : Nibble) (op : Word) (s : State) :
    s.SameContexts (cmdTrimSet p target arg op s).1 := by
  unfold cmdTrimSet
  split
  · exact .refl s
  · exact State.sameContexts_partWide (fun u => (u.sameContexts_modChannel _ _).reply _) s p

theorem sameContexts_cmdTrimRead (p : Party) (target arg : Nibble) (s : State) :
    s.SameContexts (cmdTrimRead p target arg s).1 := by
  unfold cmdTrimRead
  split <;> exact .refl s

theorem sameContexts_cmdTrimProgram (p : Party) (target arg : Nibble) (s : State) :
    s.SameContexts (cmdTrimProgram p target arg s).1 := by
  unfold cmdTrimProgram
  split
  · exact .refl s
  · refine State.sameContexts_partWide (fun u => ?_) s p
    split
    · exact .refl u
    · exact ⟨fun _ => rfl, fun _ => rfl, fun _ => rfl, rfl, rfl⟩

/-! ## The profile store -/

theorem bitsOf_lt (w : Word) (lo width : Nat) : bitsOf w lo width < 2 ^ width := (w.extractLsb' lo width).isLt

theorem clamp_range {lo hi : Nat} (h : lo ≤ hi) (v : Nat) : lo ≤ clamp lo hi v ∧ clamp lo hi v ≤ hi := by
  unfold clamp
  omega

theorem levelStored_le (v : Nat) : levelStored v ≤ 32767 := (clamp_range (by omega) v).2

theorem levelStored_mono {v w : Nat} (h : v ≤ w) : levelStored v ≤ levelStored w := by
  unfold levelStored clamp
  omega

theorem stageCarried_window_le (w1 w2 : Word) : (stageCarried w1 w2).window ≤ 65535 := by
  have := bitsOf_lt w1 16 16
  change bitsOf w1 16 16 ≤ 65535
  omega

/-- A stage list carried by words has a stage for every two of them, and each window is a 16-bit value. -/
theorem stagesCarried_spec (ws : List Word) :
    (stagesCarried ws).length = ws.length / 2 ∧ ∀ st ∈ stagesCarried ws, st.window ≤ 65535 := by
  induction ws using stagesCarried.induct with
  | case1 w1 w2 rest ih =>
    obtain ⟨hlen, hwin⟩ := ih
    refine ⟨by simp only [stagesCarried, List.length_cons, hlen]; omega, fun st hst => ?_⟩
    rcases List.mem_cons.mp hst with rfl | hst
    · exact stageCarried_window_le w1 w2
    · exact hwin st hst
  | case2 ws h =>
    have hs : stagesCarried ws = [] := by
      unfold stagesCarried
      split
      · exact absurd rfl (h _ _ _)
      · rfl
    rw [hs]
    refine ⟨?_, by simp⟩
    match ws, h with
    | [], _ => rfl
    | [_], _ => simp
    | w1 :: w2 :: rest, h => exact absurd rfl (h w1 w2 rest)

theorem Stage.stored_inRange {st : Stage} (hw : st.window ≤ 65535) (hb : st.badBand = false) : st.stored.InRange := by
  refine ⟨clamp_range (by omega) _, ⟨?_, ?_⟩, levelStored_le _, levelStored_le _, fun hk => ?_⟩
  · exact Nat.le_max_left ..
  · exact max_le (by omega) hw
  · have hk' : st.kind = .band := hk
    refine levelStored_mono ?_
    simpa [Stage.badBand, hk'] using hb

/-- A record that is not BAD-ARG is stored within the store's ranges (R43 to R48, R51). -/
theorem stored_inRange {arg : Nibble} {ops : List Word} (ha : profileWriteWords arg ≠ 0)
    (hlen : ops.length = profileWriteWords arg) (hbad : badRecord (writeCarried ops).1 (writeCarried ops).2 = false) :
    (writeCarried ops).1.stored.InRange := by
  have hcount : 1 ≤ arg.toNat ∧ arg.toNat ≤ 12 ∧ profileWriteWords arg = 6 + 2 * arg.toNat := by
    unfold profileWriteWords at ha ⊢
    split at ha
    next h => exact ⟨h.1, h.2, by rw [if_pos h]⟩
    next => exact absurd rfl ha
  obtain ⟨h1, h12, hwords⟩ := hcount
  obtain ⟨hslen, hswin⟩ := stagesCarried_spec (ops.drop 6)
  have hstages : (writeCarried ops).1.stages = stagesCarried (ops.drop 6) := rfl
  simp only [badRecord, Bool.or_eq_false_iff, decide_eq_false_iff_not] at hbad
  obtain ⟨⟨hon, -⟩, hband⟩ := hbad
  have hon' : (writeCarried ops).1.onTime ≠ 0 := hon
  have b16 (n lo : Nat) : bitsOf (ops.getD n 0) lo 16 ≤ 65535 := by
    have := bitsOf_lt (ops.getD n 0) lo 16
    omega
  have b8 (n lo : Nat) : bitsOf (ops.getD n 0) lo 8 ≤ 255 := by
    have := bitsOf_lt (ops.getD n 0) lo 8
    omega
  refine ⟨⟨levelStored_le _, levelStored_le _, levelStored_le _, levelStored_le _, levelStored_le _⟩,
    ⟨Nat.le_max_right .., max_le (levelStored_le _) (max_le (levelStored_le _) (levelStored_le _))⟩,
    ⟨Nat.le_max_right .., max_le (levelStored_le _) (levelStored_le _)⟩,
    ⟨Nat.pos_of_ne_zero hon', b16 3 0⟩, b16 3 16, b16 4 0, b8 5 0,
    ⟨(Nat.min_le_left ..).trans (b8 5 8), Nat.min_le_right ..⟩,
    ⟨(Nat.min_le_left ..).trans (b8 5 16), Nat.min_le_right ..⟩,
    clamp_range (by omega) _, ⟨?_, ?_⟩, ?_⟩
  · simp only [ProfileRecord.stored, List.length_map, hstages, hslen, List.length_drop, hlen, hwords]
    omega
  · simp only [ProfileRecord.stored, List.length_map, hstages, hslen, List.length_drop, hlen, hwords]
    omega
  · intro st hst
    obtain ⟨st', hst', rfl⟩ := List.mem_map.mp hst
    refine Stage.stored_inRange (hswin st' (hstages ▸ hst')) ?_
    exact eq_false_of_ne_true fun e => by simpa using List.any_eq_false.mp hband st' hst' e

theorem changes_cmdProfileWrite (p : Party) (target arg : Nibble) (ops : List Word) (s : State) :
    s.Changes (ops.length = profileWriteWords arg) (cmdProfileWrite p target arg ops s).1 := by
  unfold cmdProfileWrite
  split
  · exact .moves (.refl s)
  dsimp only
  split
  · exact .moves (.refl s)
  split
  · exact .moves (.refl s)
  next ha hbad hu =>
    refine .stores (profileOf target) (fun _ => rfl) (not_not.mp hu) (fun hlen => ?_) (fun q hq => ?_) rfl rfl
    · rw [State.reply_fst, State.profile_modProfile_self]
      exact stored_inRange ha hlen (Bool.eq_false_iff.mpr hbad)
    · rw [State.reply_fst, State.profile_modProfile_ne _ _ hq]

/-! ## Resets -/

theorem State.changes_resetAll {s u : State} (hrec : ∀ p, (u.profile p).record = (s.profile p).record)
    (cause : ResetCause) (fits : Prop) : s.Changes fits (u.resetAll cause) := by
  refine .resets (fun i => ?_) (fun p => ?_) rfl rfl
  · simp [State.resetAll, State.slot, Slot.atReset, Slot.reset]
  · have hp : ((u.resetAll cause).profile p).record = ((u.profile p).atReset cause).record := by
      simp [State.resetAll, State.profile]
    rw [hp, ← hrec]
    unfold Profile.atReset
    split
    · exact .inr rfl
    · exact .inl rfl

theorem changes_cmdDeviceReset (p : Party) (target arg : Nibble) (s : State) (fits : Prop) :
    s.Changes fits (cmdDeviceReset p target arg s).1 := by
  unfold cmdDeviceReset
  repeat' split
  · exact .moves (.refl s)
  · exact .moves (.refl s)
  · exact .moves (.refl s)
  · exact State.changes_resetAll (fun _ => rfl) .command fits

/-! ## Every command, every event, every step -/

/-- What a command does, given its operand words. -/
theorem changes_act (c : Cmd) (p : Party) (target arg : Nibble) (ops : List Word) (s : State) :
    s.Changes (ops.length = c.operandWords arg) (Cmd.act c p target arg ops s).1 := by
  cases c with
  | bind => exact .moves (moves_cmdBind ..)
  | unbind => exact .moves (moves_cmdUnbind p target arg s)
  | start => exact .moves (moves_cmdStart p target arg s)
  | stop => exact .moves (moves_cmdStop p target arg s)
  | ack => exact .moves (moves_cmdAck p target arg s)
  | drive => exact .moves (moves_cmdDrive p target arg _ s)
  | setConv => exact .moves (moves_cmdSetConv p target arg _ s)
  | slotInit => exact .moves (moves_cmdSlotInit p target arg s)
  | status => exact .moves (s.sameContexts_onAnySlot ..).moves
  | summaryRead => exact .moves (sameContexts_cmdSummaryRead p target arg s).moves
  | take => exact .moves (moves_cmdTake ..)
  | release => exact .moves (moves_cmdRelease p target arg s)
  | holdTime => exact .moves (sameContexts_cmdHoldTime p target arg _ s).moves
  | evPeek => exact .moves (sameContexts_cmdEvPeek p target arg s).moves
  | evRetire => exact .moves (State.moves_onStack (fun _ => ⟨rfl, rfl⟩) ..)
  | evFree => exact .moves (moves_cmdEvFree ..)
  | evClear => exact .moves (State.moves_onStack (fun _ => ⟨rfl, rfl⟩) ..)
  | faultRead => exact .moves (sameContexts_cmdFaultRead p target arg _ s).moves
  | alertMask => exact .moves (sameContexts_cmdAlertMask p target arg _ s).moves
  | profileWrite => exact changes_cmdProfileWrite p target arg ops s
  | profileRead => exact .moves (.refl s)
  | pair => exact .moves (moves_cmdPair ..)
  | partStatus => exact .moves (sameContexts_cmdPartStatus p target arg s).moves
  | setSampling => exact .moves (sameContexts_cmdSetSampling p target arg _ s).moves
  | trimSet => exact .moves (sameContexts_cmdTrimSet p target arg _ s).moves
  | trimRead => exact .moves (sameContexts_cmdTrimRead p target arg s).moves
  | trimProgram => exact .moves (sameContexts_cmdTrimProgram p target arg s).moves
  | deviceReset => exact changes_cmdDeviceReset p target arg s _

/-- Acting at the slots of a list in turn: each slot is acted on once, when it still stands as it did. -/
theorem State.foldl_slots {f : State → Fin 8 → State} (hw : ∀ s i, State.WorksAt i s (f s i))
    {R : State → State → Prop} (hrefl : ∀ s, R s s) (htrans : ∀ s t u, R s t → R t u → R s u)
    (hR : ∀ s i, R s (f s i)) {l : List (Fin 8)} (hl : l.Nodup) (s : State) :
    R s (l.foldl f s) ∧ (∀ i, i ∉ l → (l.foldl f s).slot i = s.slot i)
      ∧ ∀ i ∈ l, ∃ u, R s u ∧ u.slot i = s.slot i ∧ (l.foldl f s).slot i = (f u i).slot i := by
  induction l generalizing s with
  | nil => exact ⟨hrefl s, fun _ _ => rfl, fun i hi => by cases hi⟩
  | cons k rest ih =>
    rw [List.nodup_cons] at hl
    obtain ⟨hrest, hout, hin⟩ := ih hl.2 (f s k)
    have hne (i : Fin 8) (hi : i ≠ k) : (f s k).slot i = s.slot i := (hw s k).1 i hi
    refine ⟨htrans _ _ _ (hR s k) hrest, fun i hi => ?_, fun i hi => ?_⟩
    · rw [List.mem_cons, not_or] at hi
      exact (hout i hi.2).trans (hne i hi.1)
    · rcases List.mem_cons.mp hi with rfl | hi
      · exact ⟨s, hrefl s, rfl, hout i hl.1⟩
      · obtain ⟨u, hu, hslot, e⟩ := hin i hi
        have hik : i ≠ k := fun e => hl.1 (e ▸ hi)
        exact ⟨u, htrans _ _ _ (hR s k) hu, hslot.trans (hne i hik), e⟩

/-- What `State.atEverySlot` does at each slot. -/
theorem State.atEverySlot_slot {f : State → Fin 8 → State} (hw : ∀ s i, State.WorksAt i s (f s i))
    {R : State → State → Prop} (hrefl : ∀ s, R s s) (htrans : ∀ s t u, R s t → R t u → R s u)
    (hR : ∀ s i, R s (f s i)) (s : State) :
    R s (s.atEverySlot f)
      ∧ ∀ i, ∃ u, R s u ∧ u.slot i = s.slot i ∧ (s.atEverySlot f).slot i = (f u i).slot i := by
  obtain ⟨hall, -, hin⟩ := State.foldl_slots hw hrefl htrans hR (List.nodup_finRange 8) s
  exact ⟨hall, fun i => hin i (List.mem_finRange i)⟩

/-- Records and ports stand. -/
def State.RecordsAndPorts (s t : State) : Prop :=
  (∀ p, (t.profile p).record = (s.profile p).record) ∧ t.rack = s.rack ∧ t.bench = s.bench

theorem State.moves_atEverySlot {f : State → Fin 8 → State} (hw : ∀ s i, State.WorksAt i s (f s i))
    (hm : ∀ (s : State) i, s.Moves (f s i)) (s : State) : s.Moves (s.atEverySlot f) := by
  obtain ⟨⟨hrec, hrack, hbench⟩, hslot⟩ := State.atEverySlot_slot (R := State.RecordsAndPorts) hw
    (fun _ => ⟨fun _ => rfl, rfl, rfl⟩)
    (fun _ _ _ h h' => ⟨fun p => (h'.1 p).trans (h.1 p), h'.2.1.trans h.2.1, h'.2.2.trans h.2.2⟩)
    (fun s i => ⟨(hm s i).records, (hm s i).rack, (hm s i).bench⟩) s
  refine ⟨fun i c' hc => ?_, hrec, hrack, hbench⟩
  obtain ⟨u, ⟨hurec, -, -⟩, hu, e⟩ := hslot i
  rw [e] at hc
  obtain ⟨c, hhas, hgoes⟩ := (hm u i).moves i c' hc
  rw [hu] at hhas
  rw [State.recordOf_congr hurec] at hgoes
  exact ⟨c, hhas, hgoes⟩

theorem State.moves_assertInput {s : State} {k : PartFault} {already : Bool} {set : State → State}
    (hset : ∀ u : State, u.SameContexts (set u)) : s.Moves (s.assertInput k already set) := by
  have hraise : s.SameContexts (set (s.raisePart k)) :=
    State.SameContexts.trans (t := s.raisePart k) ⟨fun _ => rfl, fun _ => rfl, fun _ => rfl, rfl, rfl⟩ (hset _)
  unfold State.assertInput
  dsimp only
  split
  · exact .refl s
  split
  · exact hraise.moves
  · exact (State.moves_atEverySlot State.worksAt_pauseSlot State.moves_pauseSlot _).after hraise

theorem State.moves_releaseInput {s : State} {set : State → State} (hset : ∀ u : State, u.SameContexts (set u)) :
    s.Moves (s.releaseInput set) := by
  unfold State.releaseInput
  dsimp only
  split
  · exact (State.moves_atEverySlot State.worksAt_resumeSlot State.moves_resumeSlot _).after (hset s)
  · exact (hset s).moves

theorem State.sameContexts_completeProgramming (s : State) : s.SameContexts s.completeProgramming := by
  unfold State.completeProgramming
  split <;> exact ⟨fun _ => rfl, fun _ => rfl, fun _ => rfl, rfl, rfl⟩

theorem State.sameContexts_hold (s : State) : s.SameContexts s.hold :=
  ⟨fun _ => rfl, fun _ => rfl, fun _ => rfl, rfl, rfl⟩

theorem State.live_changes {s u t : State} {f : State → State} (hu : s.SameContexts u) (h : ∀ v : State, v.Moves (f v))
    (ht : u.live f = .next t) : s.Changes True t := by
  unfold State.live at ht
  injection ht with ht
  rw [← ht]
  split
  · exact .moves hu.moves
  · exact .moves ((h u).after hu)

/-- What an event does. -/
theorem changes_event {e : Instr} (he : isEvent e = true) {s t : State} (h : exec e s = .next t) :
    s.Changes True t := by
  have pins (p : Pins) : s.SameContexts { s with pins := p } := ⟨fun _ => rfl, fun _ => rfl, fun _ => rfl, rfl, rfl⟩
  have heat (b : Bool) (u : State) : u.SameContexts { u with heat := b } :=
    ⟨fun _ => rfl, fun _ => rfl, fun _ => rfl, rfl, rfl⟩
  have supply (b : Bool) (u : State) : u.SameContexts { u with supplyLow := b } :=
    ⟨fun _ => rfl, fun _ => rfl, fun _ => rfl, rfl, rfl⟩
  cases e with
  | sampleArrival ch code => exact State.live_changes (.refl s) (fun v => v.moves_sampleArrival ch code) h
  | pairSampleEvent pr x y => exact State.live_changes (.refl s) (fun v => v.moves_pairSample pr x y) h
  | onTimeExpiry i => exact State.live_changes (.refl s) (fun v => v.moves_onTimeExpiry i) h
  | bleedExpiry i => exact State.live_changes (.refl s) (fun v => v.moves_bleedExpiry i) h
  | restExpiry i => exact State.live_changes (.refl s) (fun v => v.moves_restExpiry i) h
  | endOfLead i => exact State.live_changes (.refl s) (fun v => v.moves_endOfLead i) h
  | drainCompletion i => exact State.live_changes (.refl s) (fun v => v.moves_drainCompletion i) h
  | holdTimerExpiry i => exact State.live_changes (.refl s) (fun v => v.moves_holdExpiry i) h
  | trimProgrammingCompletion =>
    exact State.live_changes (.refl s) (fun v => v.sameContexts_completeProgramming.moves) h
  | heatAsserted => exact State.live_changes (pins _) (fun v => State.moves_assertInput (heat true)) h
  | heatReleased => exact State.live_changes (pins _) (fun v => State.moves_releaseInput (heat false)) h
  | supplyLowAsserted => exact State.live_changes (pins _) (fun v => State.moves_assertInput (supply true)) h
  | supplyLowReleased => exact State.live_changes (pins _) (fun v => State.moves_releaseInput (supply false)) h
  | resetLineAsserted =>
    injection h with h
    rw [← h]
    split
    · exact .moves (.refl s)
    · exact .moves ((pins _).trans (State.sameContexts_hold _)).moves
  | resetLineReleased =>
    injection h with h
    rw [← h]
    split
    · dsimp only
      split
      · exact State.changes_resetAll (pins _).records _ _
      · exact .moves (pins _).moves
    · exact .moves (.refl s)
  | logicSupplyLoss =>
    injection h with h
    rw [← h]
    split
    · exact .moves ((pins _).trans (State.sameContexts_hold _)).moves
    · exact .moves (.refl s)
  | powerOn =>
    injection h with h
    rw [← h]
    split
    · exact .moves (.refl s)
    · exact State.changes_resetAll (pins _).records _ _
  | _ => exact Bool.noConfusion he

theorem State.slot_tick (s : State) (i : Fin 8) :
    s.tick.slot i = if s.held then s.slot i else (s.slot i).tick := by
  unfold State.tick
  split
  · rfl
  · simp [State.slot]

/-- A microsecond moves timers, which are no part of what a context goes by. -/
theorem State.moves_tick (s : State) : s.Moves s.tick := by
  have hframe : s.tick.profiles = s.profiles ∧ s.tick.rack = s.rack ∧ s.tick.bench = s.bench := by
    unfold State.tick
    split <;> exact ⟨rfl, rfl, rfl⟩
  obtain ⟨hp, hr, hb⟩ := hframe
  refine ⟨fun i c' hc => ?_, fun p => by rw [State.profile, hp]; rfl, hr, hb⟩
  rw [State.slot_tick] at hc
  split at hc
  · exact ⟨c', hc, .refl ..⟩
  · rcases hc with rfl | hc
    · exact ⟨_, .inl rfl, .stands rfl rfl rfl⟩
    · exact ⟨c', .inr hc, .refl ..⟩

theorem firstDue_mem {due : List Instr} {used : Nat} {e : Instr} (h : firstDue due used = some e) : e ∈ due := by
  match due, h with
  | [a], h => simpa [firstDue, eq_comm] using h
  | a :: b :: rest, h =>
    have h' : ((a :: b :: rest).getD (Config.firstTaken used % ((b :: rest).length + 1)) a) = e := Option.some.inj h
    have hlt : Config.firstTaken used % ((b :: rest).length + 1) < (a :: b :: rest).length :=
      Nat.mod_lt _ (Nat.succ_pos _)
    rw [← h', List.getD_eq_getElem _ _ hlt]
    exact List.getElem_mem hlt

theorem State.Changes.mono {p q : Prop} {s t : State} (h : s.Changes p t) (hpq : q → p) : s.Changes q t := by
  cases h with
  | moves h => exact .moves h
  | stores k hslots hu hq hne rack bench => exact .stores k hslots hu (hq ∘ hpq) hne rack bench
  | resets hslots hrecords rack bench => exact .resets hslots hrecords rack bench

/-- What a step does: wires change, then a command or event acts, then wires change again. -/
def State.Steps (s t : State) : Prop :=
  ∃ u v : State, s.OnlyWires u ∧ (s.AssemblersStand → u.AssemblersStand)
    ∧ u.Changes s.AssemblersStand v ∧ v.OnlyWires t ∧ (v.AssemblersStand → t.AssemblersStand)

theorem State.Steps.after {s s' t : State} (ht : s'.Steps t) (h : s.OnlyWires s')
    (ha : s.AssemblersStand → s'.AssemblersStand) : s.Steps t := by
  obtain ⟨u, v, hu, hua, hv, hvt, hta⟩ := ht
  exact ⟨u, v, h.trans hu, hua ∘ ha, hv.mono ha, hvt, hta⟩

theorem State.Takes.steps {s t : State} (h : s.Takes t) : s.Steps t := by
  cases h with
  | wires h ha => exact ⟨t, t, h, ha, .moves (.refl t), .refl t, id⟩
  | command c p target arg ops hu hua hops ht hta =>
    exact ⟨_, _, hu, hua, (changes_act c p target arg ops _).mono hops, ht, hta⟩

theorem exec_steps {c : Instr} {s t : State} (h : exec c s = .next t) : s.Steps t := by
  cases hc : isEvent c with
  | true => exact ⟨s, t, .refl s, id, (changes_event hc h).mono fun _ => trivial, .refl t, id⟩
  | false =>
    obtain ⟨t', ht', htakes⟩ := exec_takes c s hc
    rw [h] at ht'
    injection ht' with e
    rw [e]
    exact htakes.steps

/-- Every step changes the part so. -/
theorem step_steps {s t : State} (h : step s = .next t) : s.Steps t := by
  unfold step at h
  split at h
  · exact (exec_steps h).after rfl id
  · unfold idleStep at h
    split at h
    · exact (exec_steps h).after rfl id
    · injection h with h
      rw [← h]
      exact ⟨s, s.tick, .refl s, id, .moves s.moves_tick, .refl _, id⟩

end Sys2Proof.Machine
end

section
/-!
PROOFS. What every step keeps: bindings, the store and the assemblers (O9), and the cycle counts (O13). Each is a fact about
the ways a context goes, carried through `State.Steps`.
-/

namespace Sys2Proof.Machine

/-! ## A property of every context -/

/-- A property of a context, under the records of the part, at every context of the part. -/
def State.Everywhere (P : (Option (Fin 16) → ProfileRecord) → Context → Prop) (s : State) : Prop :=
  ∀ i c, (s.slot i).Has c → P s.recordOf c

theorem State.everywhere_iff {P : (Option (Fin 16) → ProfileRecord) → Context → Prop} {s : State} :
    s.Everywhere P ↔
      ∀ i, P s.recordOf (s.slot i).active ∧ ∀ c, (s.slot i).parked = some c → P s.recordOf c := by
  refine ⟨fun h i => ⟨h i _ (.inl rfl), fun c hc => h i c (.inr hc)⟩, fun h i c hc => ?_⟩
  rcases hc with rfl | hc
  · exact (h i).1
  · exact (h i).2 c hc

/-- What every way of going keeps holds at every context after the contexts have moved. -/
theorem State.Everywhere.moves {P : (Option (Fin 16) → ProfileRecord) → Context → Prop}
    (hP : ∀ rec c c', P rec c → c.Goes rec c' → P rec c') {s t : State} (h : s.Everywhere P) (hm : s.Moves t) :
    t.Everywhere P := by
  intro i c' hc'
  obtain ⟨c, hc, hgoes⟩ := hm.moves i c' hc'
  rw [State.recordOf_congr hm.records]
  exact hP _ c c' (h i c hc) hgoes

/-! ## Bindings and the store -/

/-- A context bound to no empty profile, and bound where it runs or is driven (R2, R42, R53). -/
def Context.BoundIn (rec : Option (Fin 16) → ProfileRecord) (c : Context) : Prop :=
  (∀ p, c.bound = some p → (rec (some p)).isEmpty = false) ∧ (c.state.needsProfile = true → c.bound.isSome = true)

theorem State.runsAreBound_iff {s : State} : s.RunsAreBound ↔ s.Everywhere Context.BoundIn :=
  (State.everywhere_iff (P := Context.BoundIn)).symm

theorem Context.boundIn_unneeded {rec : Option (Fin 16) → ProfileRecord} {c c' : Context} (h : c.BoundIn rec)
    (hs : c'.state.needsProfile = false) (hb : c'.bound = c.bound) : c'.BoundIn rec :=
  ⟨fun p hp => h.1 p (hb ▸ hp), fun hn => by rw [hs] at hn; cases hn⟩

theorem Context.boundIn_bound {rec : Option (Fin 16) → ProfileRecord} {c c' : Context} (h : c.BoundIn rec)
    (hsome : c.bound.isSome = true) (hb : c'.bound = c.bound) : c'.BoundIn rec :=
  ⟨fun p hp => h.1 p (hb ▸ hp), fun _ => by rw [hb]; exact hsome⟩

theorem SlotState.needsProfile_of_inRun {st : SlotState} (h : st.inRun = true) : st.needsProfile = true := by
  cases st <;> simp_all [SlotState.inRun, SlotState.needsProfile]

/-- Every way keeps a context's binding. -/
theorem Context.BoundIn.goes {rec : Option (Fin 16) → ProfileRecord} {c c' : Context} (h : c.BoundIn rec)
    (hgoes : c.Goes rec c') : c'.BoundIn rec := by
  cases hgoes with
  | stands hs hb => exact ⟨fun p hp => h.1 p (hb ▸ hp), fun hn => by rw [hb]; exact h.2 (hs ▸ hn)⟩
  | stops hs hb => exact Context.boundIn_unneeded h hs hb
  | unbinds hs hb => exact ⟨fun p hp => (Option.some_ne_none p (hp.symm.trans hb)).elim, fun hn => by rw [hs] at hn; cases hn⟩
  | binds p hs hb hp =>
    refine ⟨fun q hq => ?_, fun _ => by rw [hb]; rfl⟩
    rw [hb] at hq
    cases hq
    exact hp
  | drives _ hb hsome => exact Context.boundIn_bound h hsome hb
  | starts _ hb hsome => exact Context.boundIn_bound h hsome hb
  | pauses hc _ hb => exact Context.boundIn_bound h (h.2 (SlotState.needsProfile_of_inRun hc)) hb
  | goesOn hc _ _ hb => exact Context.boundIn_bound h (h.2 (SlotState.needsProfile_of_inRun hc)) hb
  | counts hc _ hb => exact Context.boundIn_bound h (h.2 (by rw [hc]; rfl)) hb

theorem Context.boundIn_reset (rec : Option (Fin 16) → ProfileRecord) : Context.reset.BoundIn rec :=
  ⟨fun p hp => (Option.some_ne_none p hp.symm).elim, fun hn => by cases hn⟩

/-- A stored record makes no profile empty. -/
theorem ProfileRecord.InRange.not_empty {r : ProfileRecord} (h : r.InRange) : r.isEmpty = false := by
  obtain ⟨-, -, -, -, -, -, -, -, -, -, ⟨hlen, -⟩, -⟩ := h
  unfold ProfileRecord.isEmpty
  cases hst : r.stages with
  | nil => rw [hst] at hlen; simp at hlen
  | cons => rfl

theorem State.Changes.runsAreBound {fits : Prop} {s t : State} (h : s.Changes fits t) (he : fits)
    (hs : s.RunsAreBound) : t.RunsAreBound := by
  rw [State.runsAreBound_iff] at hs ⊢
  cases h with
  | moves h => exact hs.moves (fun _ _ _ => Context.BoundIn.goes) h
  | stores q hslots _ hq hne =>
    intro i c hc
    rw [hslots] at hc
    obtain ⟨hrec, hneeds⟩ := hs i c hc
    refine ⟨fun p hp => ?_, hneeds⟩
    by_cases hpq : p = q
    · subst hpq
      exact (hq he).not_empty
    · exact (congrArg ProfileRecord.isEmpty (hne p hpq)).trans (hrec p hp)
  | resets hslots =>
    intro i c hc
    obtain ⟨ha, hp⟩ := hslots i
    rcases hc with rfl | hc
    · rw [ha]
      exact Context.boundIn_reset _
    · rw [hp] at hc
      cases hc

theorem State.Changes.storeInRange {fits : Prop} {s t : State} (h : s.Changes fits t) (he : fits)
    (hs : s.StoreInRange) : t.StoreInRange := by
  intro p
  cases h with
  | moves h => rw [h.records]; exact hs p
  | stores q _ _ hq hne =>
    by_cases hpq : p = q
    · subst hpq
      exact .inr (hq he)
    · rw [hne p hpq]
      exact hs p
  | resets _ hrecords =>
    rcases hrecords p with e | e
    · rw [e]; exact hs p
    · exact .inl e

theorem State.Changes.assemblersStand {fits : Prop} {s t : State} (h : s.Changes fits t)
    (hs : s.AssemblersStand) : t.AssemblersStand := by
  cases h with
  | moves h => exact State.assemblersStand_congr hs (by rw [h.rack]) (by rw [h.bench])
  | stores _ _ _ _ _ rack bench => exact State.assemblersStand_congr hs (by rw [rack]) (by rw [bench])
  | resets _ _ rack bench => exact ⟨by rw [rack]; rfl, by rw [bench]; rfl⟩

/-- Settles O9: each way a context can go keeps its binding, a store that is taken is clamped into range, and an assembler
awaits what its partial command lacks. -/
theorem bindingsAndStoreAreKept : Obligations.BindingsAndStoreAreKept := by
  intro s t hbound hstore hasm hstep
  obtain ⟨u, v, hu, hua, huv, hvt, hta⟩ := step_steps hstep
  have hv : v.RunsAreBound ∧ v.StoreInRange := by
    have hbound' : u.RunsAreBound := by rw [hu]; exact hbound
    have hstore' : u.StoreInRange := by rw [hu]; exact hstore
    exact ⟨huv.runsAreBound hasm hbound', huv.storeInRange hasm hstore'⟩
  refine ⟨?_, ?_, hta (huv.assemblersStand (hua hasm))⟩
  · rw [hvt]; exact hv.1
  · rw [hvt]; exact hv.2

/-! ## Cycle counts -/

/-- A context's completed cycles against the record of its binding (R10). -/
def Context.WithinCycles (rec : Option (Fin 16) → ProfileRecord) (c : Context) : Prop :=
  cyclesWithin (rec c.bound) c = true

theorem State.cyclesWithin_iff {s : State} : s.CyclesWithin ↔ s.Everywhere Context.WithinCycles :=
  (State.everywhere_iff (P := Context.WithinCycles)).symm

/-- Where a run has another on-phase to come D is below a nonzero cycle count; after its on-phase, within it. -/
theorem cyclesWithin_iff (r : ProfileRecord) (c : Context) :
    cyclesWithin r c = true ↔
      r.cycleCount ≠ 0 →
        ((c.state = .runOn ∨ c.state = .runRest) → c.d < r.cycleCount)
        ∧ ((c.state = .runBleed ∨ c.state = .paused) → c.d ≤ r.cycleCount) := by
  unfold cyclesWithin
  by_cases h : r.cycleCount = 0
  · cases c.state <;> simp [h]
  · cases c.state <;> simp [h]

/-- A run in hand has D within a nonzero cycle count. -/
theorem Context.WithinCycles.le {rec : Option (Fin 16) → ProfileRecord} {c : Context} (h : c.WithinCycles rec)
    (hc : c.state.inRun = true) (hn : (rec c.bound).cycleCount ≠ 0) : c.d ≤ (rec c.bound).cycleCount := by
  obtain ⟨hlt, hle⟩ := (cyclesWithin_iff _ c).mp h hn
  cases hs : c.state with
  | runOn => exact (hlt (.inl hs)).le
  | runRest => exact (hlt (.inr hs)).le
  | runBleed => exact hle (.inl hs)
  | paused => exact hle (.inr hs)
  | _ => rw [hs] at hc; cases hc

theorem Context.withinCycles_of_not_running {rec : Option (Fin 16) → ProfileRecord} {c : Context}
    (hs : c.state.inRun = false) : c.WithinCycles rec := by
  unfold Context.WithinCycles cyclesWithin
  cases hst : c.state <;> rw [hst] at hs <;> first | rfl | cases hs

/-- A run with D within its cycle count whose next on-phase is to come. -/
theorem Context.withinCycles_of_lt {rec : Option (Fin 16) → ProfileRecord} {c : Context}
    (h : (rec c.bound).cycleCount ≠ 0 → c.d < (rec c.bound).cycleCount) : c.WithinCycles rec :=
  (cyclesWithin_iff _ c).mpr fun hn => ⟨fun _ => h hn, fun _ => (h hn).le⟩

theorem SlotState.not_inRun_of_unneeded {st : SlotState} (h : st.needsProfile = false) : st.inRun = false := by
  cases st <;> simp_all [SlotState.inRun, SlotState.needsProfile]

/-- Every way keeps a run's completed cycles within its cycle count. -/
theorem Context.WithinCycles.goes {rec : Option (Fin 16) → ProfileRecord} {c c' : Context} (h : c.WithinCycles rec)
    (hgoes : c.Goes rec c') : c'.WithinCycles rec := by
  cases hgoes with
  | stands hs hb hd =>
    unfold Context.WithinCycles cyclesWithin at h ⊢
    rw [hs, hb, hd]
    exact h
  | stops hs => exact Context.withinCycles_of_not_running (SlotState.not_inRun_of_unneeded hs)
  | unbinds hs => exact Context.withinCycles_of_not_running (SlotState.not_inRun_of_unneeded hs)
  | binds _ hs => exact Context.withinCycles_of_not_running (by rw [hs]; rfl)
  | drives hs => exact Context.withinCycles_of_not_running (by rw [hs]; rfl)
  | starts _ _ _ hd => exact Context.withinCycles_of_lt fun hn => by rw [hd]; exact Nat.pos_of_ne_zero hn
  | pauses hc hs hb hd =>
    refine (cyclesWithin_iff _ c').mpr fun hn => ?_
    rw [hb] at hn ⊢
    rw [hs, hd]
    exact ⟨by simp, fun _ => h.le hc hn⟩
  | goesOn hc hrest hs hb hd =>
    refine Context.withinCycles_of_lt fun hn => ?_
    rw [hb] at hn ⊢
    rw [hd]
    rcases hrest with hrest | hrest
    · exact ((cyclesWithin_iff _ c).mp h hn).1 (.inr hrest)
    · exact lt_of_le_of_ne (h.le hc hn) fun e => hrest ⟨hn, e⟩
  | counts hc hd hb hs =>
    have hle : (rec c.bound).cycleCount ≠ 0 → c'.d ≤ (rec c.bound).cycleCount := fun hn => by
      have := ((cyclesWithin_iff _ c).mp h hn).1 (.inl hc)
      rw [hd]
      split <;> omega
    rcases hs with hs | ⟨-, hnot⟩
    · refine (cyclesWithin_iff _ c').mpr fun hn => ?_
      rw [hb] at hn ⊢
      rw [hs]
      exact ⟨by simp, fun _ => hle hn⟩
    · refine Context.withinCycles_of_lt fun hn => ?_
      rw [hb] at hn ⊢
      exact lt_of_le_of_ne (hle hn) fun e => hnot ⟨hn, e⟩

/-- A profile that no context counts as its own binds none. -/
theorem State.UseCountsMatch.unbound {s : State} (h : s.UseCountsMatch) {q : Fin 16}
    (hq : (s.profile q).useCount = 0) {i : Fin 8} {c : Context} (hc : (s.slot i).Has c) : c.bound ≠ some q := by
  have hsum := h q
  rw [hq] at hsum
  have hzero : ∀ j, (s.slot j).boundTo q = 0 := by
    unfold State.contextsBoundTo at hsum
    intro j
    fin_cases j <;> simp only [Fin.mk_zero, Fin.mk_one, Fin.reduceFinMk, Fin.isValue] <;> omega
  have hi := hzero i
  unfold Slot.boundTo at hi
  intro hb
  rcases hc with rfl | hc
  · simp [hb] at hi
  · simp [hc, hb] at hi

theorem State.Changes.cyclesWithin {fits : Prop} {s t : State} (h : s.Changes fits t) (hs : s.CyclesWithin)
    (hu : s.UseCountsMatch) : t.CyclesWithin := by
  rw [State.cyclesWithin_iff] at hs ⊢
  cases h with
  | moves h => exact hs.moves (fun _ _ _ => Context.WithinCycles.goes) h
  | stores q hslots hq _ hne =>
    intro i c hc
    rw [hslots] at hc
    have hrec : t.recordOf c.bound = s.recordOf c.bound := by
      cases hb : c.bound with
      | none => rfl
      | some p => exact hne p fun e => hu.unbound hq hc (e ▸ hb)
    unfold Context.WithinCycles
    rw [hrec]
    exact hs i c hc
  | resets hslots =>
    intro i c hc
    obtain ⟨ha, hp⟩ := hslots i
    rcases hc with rfl | hc
    · rw [ha]
      exact Context.withinCycles_of_not_running rfl
    · rw [hp] at hc
      cases hc

/-- Settles O13: each way a context can go keeps D within the cycle count, and a record is stored only where no context is
bound to its profile. -/
theorem runsDoNotExceedTheirCycleCount : Obligations.RunsDoNotExceedTheirCycleCount := by
  intro s t hs huse _ hstep
  obtain ⟨u, v, hu, -, huv, hvt, -⟩ := step_steps hstep
  have hu' : u.CyclesWithin ∧ u.UseCountsMatch := by rw [hu]; exact ⟨hs, huse⟩
  rw [hvt]
  exact huv.cyclesWithin hu'.1 hu'.2

end Sys2Proof.Machine
end

section
/-!
SUPPORT. The completion of a holder's command at its slot: the hold timer restarts, the slot acts, the port answers.
-/

namespace Sys2Proof.Machine

/-! ## The hold timer's restart -/

theorem State.modSlot_self {s : State} {i : Fin 8} {f : Slot → Slot} (h : f (s.slot i) = s.slot i) :
    s.modSlot i f = s := by
  unfold State.modSlot
  rw [h]
  simp [State.slot]

@[simp] theorem State.channel_restartHold (s : State) (p : Party) (i c : Fin 8) :
    (s.restartHold p i).channel c = s.channel c := by
  rw [s.restartHold_frame p i]
  rfl

/-- At a slot it reaches, a holder's command restarts that slot's own timer (R150). -/
theorem State.restartHold_of_reaches {s : State} {p : Party} {i : Fin 8} (h : s.Reaches p i) :
    s.restartHold p i = s.modSlot i fun sl => { sl with holdTimer := s.holdAfter p i } := by
  obtain ⟨-, hu, hp⟩ := h
  unfold State.restartHold State.holdAfter
  rw [State.governor_of_not_upperPaired hu]
  cases p with
  | bench => simp [hp]
  | rack => simp [State.modSlot_self]

section
variable {s : State} {p : Party} {i : Fin 8} (h : s.Reaches p i)
include h

theorem State.Reaches.slot_restartHold :
    (s.restartHold p i).slot i = { s.slot i with holdTimer := s.holdAfter p i } := by
  rw [State.restartHold_of_reaches h, State.slot_modSlot_self]

theorem State.Reaches.runsAt_restartHold : State.RunsAt i s (s.restartHold p i) := by
  rw [State.restartHold_of_reaches h]
  exact s.runsAt_modSlot ..

theorem State.Reaches.env_restartHold : (s.restartHold p i).env i = s.env i := by
  refine h.runsAt_restartHold.env ?_
  rw [h.slot_restartHold]

theorem State.Reaches.activeRecord_restartHold : (s.restartHold p i).activeRecord i = s.activeRecord i := by
  refine h.runsAt_restartHold.activeRecord ?_
  rw [h.slot_restartHold]

end

/-! ## Answers -/

theorem State.answered_answer {s u : State} (h : s.PortsKept u) (p : Party) (c : Cmd) (target : Nibble) (r : Reply) :
    s.Answered p c target r.status r.words (u.answer p c.code target r) := by
  obtain ⟨hr, hb, hbus⟩ := h
  have hport (q : Party) : u.port q = s.port q := by cases q <;> assumption
  refine ⟨?_, ?_, ?_⟩
  · rw [State.port_answer_self, hport]
  · rw [State.port_answer_other, hport]
  · rw [State.bus_answer, hbus]

section
variable {s t : State} (h : s.OnlyPorts t)
include h

theorem State.OnlyPorts.slot (i : Fin 8) : t.slot i = s.slot i := by rw [h]; rfl
theorem State.OnlyPorts.channel (i : Fin 8) : t.channel i = s.channel i := by rw [h]; rfl
theorem State.OnlyPorts.pair (q : Fin 4) : t.pair q = s.pair q := by rw [h]; rfl
theorem State.OnlyPorts.profile (q : Fin 16) : t.profile q = s.profile q := by rw [h]; rfl

end

theorem State.OnlySlot.ports {s u t : State} {i : Fin 8} (h : s.OnlySlot i u) (ht : u.OnlyPorts t) :
    s.OnlySlot i t := by
  obtain ⟨hslot, hframe⟩ := h
  refine ⟨fun j hj => (State.OnlyPorts.slot ht j).trans (hslot j hj), ?_⟩
  rw [ht, hframe]

theorem State.OnlySlotAndTrips.ports {s u t : State} {i : Fin 8} (h : s.OnlySlotAndTrips i u) (ht : u.OnlyPorts t) :
    s.OnlySlotAndTrips i t := by
  obtain ⟨hslot, hchannel, hframe⟩ := h
  refine ⟨fun j hj => (State.OnlyPorts.slot ht j).trans (hslot j hj), fun c => ?_, ?_⟩
  · rw [State.OnlyPorts.channel ht]
    exact hchannel c
  · rw [ht, hframe]

theorem State.OnlySlotTripsAndRails.ports {s u t : State} {i : Fin 8} (h : s.OnlySlotTripsAndRails i u)
    (ht : u.OnlyPorts t) : s.OnlySlotTripsAndRails i t := by
  obtain ⟨hslot, hchannel, hpair, hframe⟩ := h
  refine ⟨fun j hj => (State.OnlyPorts.slot ht j).trans (hslot j hj), fun c => ?_, fun q => ?_, ?_⟩
  · rw [State.OnlyPorts.channel ht]
    exact hchannel c
  · rw [State.OnlyPorts.pair ht]
    exact hpair q
  · rw [ht, hframe]

/-- Only the slots, the profiles and the ports may differ, and of the slots only slot `i`. -/
abbrev State.OnlySlotAndProfiles (s : State) (i : Fin 8) (t : State) : Prop :=
  (∀ j, j ≠ i → t.slot j = s.slot j)
    ∧ t = { s with slots := t.slots, profiles := t.profiles, rack := t.rack, bench := t.bench, bus := t.bus }

theorem State.OnlySlotAndProfiles.ports {s u t : State} {i : Fin 8} (h : s.OnlySlotAndProfiles i u)
    (ht : u.OnlyPorts t) : s.OnlySlotAndProfiles i t := by
  obtain ⟨hslot, hframe⟩ := h
  refine ⟨fun j hj => (State.OnlyPorts.slot ht j).trans (hslot j hj), ?_⟩
  rw [ht, hframe]

/-! ## Completion -/

/-- A command on a part that is not held: where its block gives the state `u` and a reply, the part ends in `u` but for the
ports, which carry the reply (R182). -/
theorem State.command_completes {s u : State} {p : Party} {target : Nibble} {act : State → State × Reply} {r : Reply}
    (h : s.held = false) (c : Cmd) (hact : act s = (u, r)) (hu : s.PortsKept u) :
    ∃ t, s.command p c target act = .next t ∧ s.Answered p c target r.status r.words t ∧ u.OnlyPorts t := by
  refine ⟨u.answer p c.code target r, ?_, State.answered_answer hu .., u.onlyPorts_answer ..⟩
  rw [State.command_of_not_held _ _ _ _ h, hact]

/-- The same of a command that replies with its status alone. -/
theorem State.command_replies {s u : State} {p : Party} {target : Nibble} {act : State → State × Reply} {st : Status}
    (h : s.held = false) (c : Cmd) (hact : act s = (u, Reply.bare st)) (hu : s.PortsKept u) :
    ∃ t, s.command p c target act = .next t ∧ s.Answered p c target st [] t ∧ u.OnlyPorts t :=
  State.command_completes (r := Reply.bare st) h c hact hu

end Sys2Proof.Machine
end

section
/-!
PROOFS. The slot commands complete (O29 to O34) and DRIVE is refused in its order (O35).
-/

namespace Sys2Proof.Machine

/-! ## BIND, UNBIND, SLOT-INIT -/

theorem State.bindTo_frame (s : State) (i : Fin 8) (p : Fin 16) :
    s.bindTo i p = { s with slots := (s.bindTo i p).slots, profiles := (s.bindTo i p).profiles } := by
  unfold State.bindTo
  split
  · rfl
  · rw [s.releaseBinding_frame i]
    rfl

/-- Work on the slot and its binding, after the hold timer's restart. -/
theorem State.Reaches.onlySlotAndProfiles {s u : State} {p : Party} {i : Fin 8} (h : s.Reaches p i)
    (hw : State.WorksAt i (s.restartHold p i) u)
    (hf : u = { s.restartHold p i with slots := u.slots, profiles := u.profiles }) :
    s.OnlySlotAndProfiles i u ∧ s.PortsKept u := by
  refine ⟨⟨fun j hj => (hw.1 j hj).trans (h.runsAt_restartHold.slot_ne hj), ?_⟩, ?_⟩
  · rw [hf, s.restartHold_frame p i]
  · rw [hf, s.restartHold_frame p i]
    exact ⟨rfl, rfl, rfl⟩

/-- Settles O29: past its checks BIND is the binding of the slot. -/
theorem bindBindsTheNamedProfile : Obligations.BindBindsTheNamedProfile := by
  intro p i arg s h hidle hstages
  have hslot := h.slot_restartHold
  have hprofile := h.runsAt_restartHold.profile
  have hempty : (s.profile (profileOf arg)).record.isEmpty = false := by
    simpa [ProfileRecord.isEmpty] using hstages
  obtain ⟨honly, hports⟩ := h.onlySlotAndProfiles ((s.restartHold p i).worksAt_bindTo i (profileOf arg))
    ((s.restartHold p i).bindTo_frame i (profileOf arg))
  obtain ⟨t, hexec, hans, ht⟩ : ∃ t, exec (.bind p (slotField i) arg) s = .next t
      ∧ s.Answered p .bind (slotField i) .ok [] t ∧ ((s.restartHold p i).bindTo i (profileOf arg)).OnlyPorts t :=
    State.command_replies h.1 .bind
      (by simp [cmdBind, State.onHeldSlot_reaches _ h, hslot, hidle, hprofile, hempty, State.reply]) hports
  obtain ⟨hother, hframe⟩ := honly.ports ht
  refine ⟨t, hexec, hans, ?_, hother, fun q => ?_, hframe⟩
  · rw [State.OnlyPorts.slot ht, State.slot_bindTo, hslot]
  · rw [State.OnlyPorts.profile ht, State.profile_bindTo, hslot, hprofile]

/-- A slot gives up its binding after the hold timer's restart. -/
theorem State.Reaches.releasesBinding {s : State} {p : Party} {i : Fin 8} (h : s.Reaches p i) :
    s.ReleasesBinding i ((s.restartHold p i).releaseBinding i) := by
  intro q
  rw [(s.restartHold p i).profile_releaseBinding i q, h.slot_restartHold, h.runsAt_restartHold.profile]

/-- Settles O30: both give up the binding; SLOT-INIT then starts the slot anew. -/
theorem unbindAndSlotInitGiveUpTheBinding : Obligations.UnbindAndSlotInitGiveUpTheBinding := by
  intro p i arg s h hrest
  have hslot := h.slot_restartHold
  constructor
  · obtain ⟨honly, hports⟩ := h.onlySlotAndProfiles ((s.restartHold p i).worksAt_releaseBinding i)
      ((s.restartHold p i).releaseBinding_frame i)
    obtain ⟨t, hexec, hans, ht⟩ : ∃ t, exec (.unbind p (slotField i) arg) s = .next t
        ∧ s.Answered p .unbind (slotField i) .ok [] t ∧ ((s.restartHold p i).releaseBinding i).OnlyPorts t :=
      State.command_replies h.1 .unbind
        (by rcases hrest with e | e <;> simp [cmdUnbind, State.onHeldSlot_reaches _ h, hslot, e, State.reply]) hports
    obtain ⟨hother, hframe⟩ := honly.ports ht
    refine ⟨t, hexec, hans, ?_, hother, fun q => ?_, hframe⟩
    · rw [State.OnlyPorts.slot ht, State.slot_releaseBinding, if_pos rfl, hslot]
    · rw [State.OnlyPorts.profile ht]
      exact h.releasesBinding q
  · have hframe' : ((s.restartHold p i).releaseBinding i).modSlot i Slot.initialise =
        { s.restartHold p i with
          slots := (((s.restartHold p i).releaseBinding i).modSlot i Slot.initialise).slots
          profiles := (((s.restartHold p i).releaseBinding i).modSlot i Slot.initialise).profiles } := by
      rw [(s.restartHold p i).releaseBinding_frame i]
      rfl
    obtain ⟨honly, hports⟩ := h.onlySlotAndProfiles ((s.restartHold p i).worksAt_slotInit i) hframe'
    obtain ⟨t, hexec, hans, ht⟩ : ∃ t, exec (.slotInit p (slotField i) arg) s = .next t
        ∧ s.Answered p .slotInit (slotField i) .ok [] t
        ∧ (((s.restartHold p i).releaseBinding i).modSlot i Slot.initialise).OnlyPorts t :=
      State.command_replies h.1 .slotInit
        (by rcases hrest with e | e <;> simp [cmdSlotInit, State.onHeldSlot_reaches _ h, hslot, e, State.reply]) hports
    obtain ⟨hother, hframe⟩ := honly.ports ht
    have hself : t.slot i = Slot.initialise { s.slot i with holdTimer := s.holdAfter p i } := by
      rw [State.OnlyPorts.slot ht, State.slot_slotInit, hslot]
    refine ⟨t, hexec, hans, ?_, fun n => ?_, hother, fun q => ?_, hframe⟩
    · rw [hself]
      rfl
    · rw [hself]
      simp [Slot.initialise, Slot.clearStack]
    · rw [State.OnlyPorts.profile ht]
      exact h.releasesBinding q

/-! ## START, STOP -/

/-- Settles O31: past its checks START sets D and the baseline, and begins an on-phase. -/
theorem startBeginsARun : Obligations.StartBeginsARun := by
  intro p i arg s h hwithheld hidle hbound hheat hsupply
  have hslot := h.slot_restartHold
  have hrun := h.runsAt_restartHold
  have hhold : (s.restartHold p i).shelfHold = false := by
    rw [hrun.shelfHold, State.shelfHold, hheat, hsupply]
    rfl
  generalize hu : ((s.restartHold p i).modSlot i fun sl => { sl with active := sl.active.beginRun }) = u
  have hsu : State.RunsAt i s u := hu ▸ hrun.trans (State.runsAt_modSlot ..)
  have hus : u.slot i = { s.slot i with active := (s.slot i).active.beginRun, holdTimer := s.holdAfter p i } := by
    rw [← hu, State.slot_modSlot_self, hslot]
  have hur : u.activeRecord i = s.activeRecord i := by
    rw [State.activeRecord, hsu.recordOf, hus]
    rfl
  have htotal := hsu.trans (u.runsAt_beginOnPhase i)
  obtain ⟨t, hexec, hans, ht⟩ : ∃ t, exec (.start p (slotField i) arg) s = .next t
      ∧ s.Answered p .start (slotField i) .ok [] t ∧ (u.beginOnPhase i).OnlyPorts t :=
    State.command_replies h.1 .start
      (by simp [cmdStart, State.onHeldSlot_reaches _ h, hslot, hwithheld, hidle, hbound, hhold, State.reply, hu])
      htotal.portsKept
  refine ⟨t, hexec, hans, ?_, fun c => ?_, htotal.onlySlotAndTrips.ports ht⟩
  · rw [State.OnlyPorts.slot ht, State.slot_beginOnPhase, hus, hur, hsu.mode]
    rfl
  · have hup : u.upperPaired i = false := (hsu.upperPaired i).trans h.2.1
    rw [State.OnlyPorts.channel ht, State.channel_beginOnPhase hup, hsu.governor, ← hu]
    simp

/-- A slot at which a STOP is taken (R13, R14, R75): a run or a manual drive ends. -/
def Slot.stopped (sl : Slot) (env : Env) : Slot :=
  match sl.active.state with
  | .runOn =>
    (sl.formSummary env .abort false).inState .drain (freshTimer (drainOf env.record)) (some .idle)
  | .runBleed => sl.inState .drain sl.active.timer (some .idle)
  | .runRest | .paused => sl.inState .idle none none
  | .manual => sl.inState .drain (freshTimer (drainOf env.record)) (some .idle)
  | .idle | .faulted | .drain => sl

/-- An on-phase that is abandoned for a drain. -/
theorem State.slot_abandon_enterDrain (s : State) (i : Fin 8) (v : Verdict) (x : DrainNext) :
    ((s.abandonOnPhase i v).enterDrain i x).slot i =
      ((s.slot i).formSummary (s.env i) v false).inState .drain (freshTimer (drainOf (s.activeRecord i))) (some x) := by
  have hrec : (s.abandonOnPhase i v).activeRecord i = s.activeRecord i := by
    refine (s.runsAt_abandonOnPhase i v).activeRecord ?_
    rw [State.slot_abandonOnPhase, Slot.formSummary_active]
    rfl
  rw [State.slot_enterDrain, State.slot_abandonOnPhase, hrec]

/-- A taken STOP, after the hold timer's restart. -/
theorem cmdStop_taken {p : Party} {i : Fin 8} {arg : Nibble} {s : State} (h : s.Reaches p i)
    (hst : (s.slot i).active.state ≠ .idle ∧ (s.slot i).active.state ≠ .faulted
      ∧ (s.slot i).active.state ≠ .drain) :
    ∃ u, cmdStop p (slotField i) arg s = (u, Reply.bare .ok)
      ∧ u.slot i = Slot.stopped { s.slot i with holdTimer := s.holdAfter p i } (s.env i)
      ∧ (∀ q, (u.pair q).rails =
          if (s.slot i).active.state = .manual ∧ q = pairOf i then none else (s.pair q).rails)
      ∧ (∀ c, u.channel c = s.channel c) ∧ s.OnlySlotTripsAndRails i u ∧ s.PortsKept u := by
  obtain ⟨hidle, hfaulted, hdrain⟩ := hst
  have hslot := h.slot_restartHold
  have hrun := h.runsAt_restartHold
  have henv := h.env_restartHold
  have hrec := h.activeRecord_restartHold
  unfold cmdStop
  simp only [State.onHeldSlot_reaches _ h, hslot, Slot.stopped]
  cases hst : (s.slot i).active.state with
  | idle => exact absurd hst hidle
  | faulted => exact absurd hst hfaulted
  | drain => exact absurd hst hdrain
  | runOn =>
    have hu := hrun.trans ((State.runsAt_abandonOnPhase _ i .abort).trans (State.runsAt_enterDrain _ i .idle))
    refine ⟨_, rfl, ?_, fun q => by simp [hu.pair], fun c => s.channel_restartHold p i c,
      hu.onlySlotTripsAndRails, hu.portsKept⟩
    rw [State.slot_abandon_enterDrain, hslot, henv, hrec]
    rfl
  | runBleed =>
    have hu := hrun.trans (State.runsAt_modSlot i _ fun sl => sl.enter .drain sl.active.timer (some .idle))
    refine ⟨_, rfl, ?_, fun q => (congrArg Pair.rails (hu.pair q)).trans (by simp), fun c => s.channel_restartHold p i c,
      hu.onlySlotTripsAndRails, hu.portsKept⟩
    rw [State.slot_continueDrain, hslot]
  | runRest =>
    have hu := hrun.trans (State.runsAt_modSlot i _ fun sl => sl.enter .idle none)
    refine ⟨_, rfl, ?_, fun q => by simp [hu.pair], fun c => s.channel_restartHold p i c,
      hu.onlySlotTripsAndRails, hu.portsKept⟩
    rw [State.slot_modSlot_self, hslot]
    rfl
  | paused =>
    have hu := hrun.trans (State.runsAt_modSlot i _ fun sl => sl.enter .idle none)
    refine ⟨_, rfl, ?_, fun q => by simp [hu.pair], fun c => s.channel_restartHold p i c,
      hu.onlySlotTripsAndRails, hu.portsKept⟩
    rw [State.slot_modSlot_self, hslot]
    rfl
  | manual =>
    have hu := hrun.trans (State.runsAt_enterDrain _ i .idle)
    refine ⟨_, rfl, ?_, fun q => ?_, fun c => s.channel_restartHold p i c,
      hu.onlySlotTripsAndRails_modPair none, hu.portsKept⟩
    · rw [State.slot_clearRails, State.slot_enterDrain, hslot, hrec]
      rfl
    · unfold State.clearRails
      rw [State.pair_modPair, hu.pair, hu.pair]
      by_cases hq : q = pairOf i <;> simp [hq]

/-- Settles O32: STOP goes by the slot's state, and ends a run's on-phase with its summary. -/
theorem stopEndsTheRunByState : Obligations.StopEndsTheRunByState := by
  intro p i arg s h sl st hidle hfaulted hdrain
  obtain ⟨u, hcmd, hself, hrails, htrips, honly, hports⟩ := cmdStop_taken (arg := arg) h ⟨hidle, hfaulted, hdrain⟩
  obtain ⟨t, hexec, hans, ht⟩ : ∃ t, exec (.stop p (slotField i) arg) s = .next t
      ∧ s.Answered p .stop (slotField i) .ok [] t ∧ u.OnlyPorts t := State.command_replies h.1 .stop hcmd hports
  rw [← State.OnlyPorts.slot ht] at hself
  refine ⟨t, hexec, hans, fun e => ?_, fun e => ?_, fun e => ?_, fun e => ?_, fun q => ?_, fun c => ?_, honly.ports ht⟩
  · rw [hself, Slot.stopped, show (s.slot i).active.state = _ from e]
    rfl
  · rw [hself, Slot.stopped, show (s.slot i).active.state = _ from e]
  · rcases e with e | e <;> rw [hself, Slot.stopped, show (s.slot i).active.state = _ from e]
  · rw [hself, Slot.stopped, show (s.slot i).active.state = _ from e]
    rfl
  · rw [State.OnlyPorts.pair ht, hrails]
  · rw [State.OnlyPorts.channel ht, htrips]

/-! ## ACK, SET-CONV -/

theorem State.Reaches.onlySlot_restartHold {s : State} {p : Party} {i : Fin 8} (h : s.Reaches p i) :
    s.OnlySlot i (s.restartHold p i) := by
  refine ⟨fun j hj => h.runsAt_restartHold.slot_ne hj, ?_⟩
  rw [s.restartHold_frame p i]

theorem State.OnlySlot.modSlot {s u : State} {i : Fin 8} (h : s.OnlySlot i u) (f : Slot → Slot) :
    s.OnlySlot i (u.modSlot i f) := by
  obtain ⟨hslot, hframe⟩ := h
  refine ⟨fun j hj => (u.slot_modSlot_ne f hj).trans (hslot j hj), ?_⟩
  rw [hframe]
  rfl

theorem roundingOf_eq (op : Word) :
    roundingOf (bitsOf op 0 2) =
      if op.extractLsb' 0 2 = 0#2 then .nearestEven else if op.extractLsb' 0 2 = 1#2 then .down
      else if op.extractLsb' 0 2 = 2#2 then .up else .zero := by
  unfold bitsOf
  generalize op.extractLsb' 0 2 = code
  revert code
  decide

/-- Settles O33: past its checks each changes the slot once, after the hold timer's restart. -/
theorem ackAndSetConvChangeOneThing : Obligations.AckAndSetConvChangeOneThing := by
  constructor
  · intro p i arg s h hst htrip hsignature
    have hslot := h.slot_restartHold
    have hstate : ((s.restartHold p i).slot i).active.state = .faulted := by rw [hslot, hst]
    have hnotrip : ((s.restartHold p i).slot i).flag .trip = false := by rw [hslot]; exact htrip
    have hnosignature : ((s.restartHold p i).slot i).flag .signature = false := by rw [hslot]; exact hsignature
    obtain ⟨t, hexec, hans, ht⟩ : ∃ t, exec (.ack p (slotField i) arg) s = .next t
        ∧ s.Answered p .ack (slotField i) .ok [] t
        ∧ ((s.restartHold p i).modSlot i fun sl => sl.enter .idle none).OnlyPorts t :=
      State.command_replies h.1 .ack
        (by simp [cmdAck, State.onHeldSlot_reaches _ h, hstate, hnotrip, hnosignature, State.reply])
        (h.runsAt_restartHold.trans (State.runsAt_modSlot ..)).portsKept
    refine ⟨t, hexec, hans, ?_, (h.onlySlot_restartHold.modSlot _).ports ht⟩
    rw [State.OnlyPorts.slot ht, State.slot_modSlot_self, hslot]
    rfl
  · intro p i arg op s h
    have hslot := h.slot_restartHold
    obtain ⟨t, hexec, hans, ht⟩ : ∃ t, exec (.setConv p (slotField i) arg op) s = .next t
        ∧ s.Answered p .setConv (slotField i) .ok [] t
        ∧ ((s.restartHold p i).modSlot i fun sl =>
            { sl with active := { sl.active with conv := convOf op } }).OnlyPorts t :=
      State.command_replies h.1 .setConv (by simp [cmdSetConv, State.onHeldSlot_reaches _ h, State.reply])
        (h.runsAt_restartHold.trans (State.runsAt_modSlot ..)).portsKept
    refine ⟨t, hexec, hans, ?_, (h.onlySlot_restartHold.modSlot _).ports ht⟩
    rw [State.OnlyPorts.slot ht, State.slot_modSlot_self, hslot, convOf, roundingOf_eq]

/-! ## DRIVE -/

theorem driveForm_float (mode : PairMode) : driveForm mode 0 = some .float := by cases mode <;> rfl

theorem driveForm_bleed (mode : PairMode) : driveForm mode 2 = some .bleed := by cases mode <;> rfl

/-- The rail requests a feed makes (R143). -/
def railsAsked (mode : PairMode) (op : Word) : Option Rails :=
  if mode = .dual then if op = 1 then some .standbyOnly else some .both else none

theorem driveForm_feed {mode : PairMode} {op : Word}
    (h : (op = 1 ∧ ¬ mode = .dual) ∨ ((op = 1 ∨ op = 3) ∧ mode = .dual)) :
    driveForm mode op = some (.feed (railsAsked mode op)) := by
  rcases h with ⟨rfl, hm⟩ | ⟨rfl | rfl, rfl⟩
  · cases mode with
    | separate => rfl
    | gang => rfl
    | dual => exact absurd rfl hm
  · rfl
  · rfl

theorem driveForm_none {mode : PairMode} {op : Word} (h : ¬ (op.toNat ≤ 2 ∨ (op = 3 ∧ mode = .dual))) :
    driveForm mode op = none := by
  obtain ⟨hop, h3⟩ := not_or.mp h
  have hne (n : Nat) (hn : n ≤ 2) : op.toNat ≠ n := by omega
  cases mode with
  | separate | gang => simp [driveForm, hne]
  | dual =>
    have hop3 : op.toNat ≠ 3 := fun e => h3 ⟨BitVec.eq_of_toNat_eq e, rfl⟩
    unfold driveForm
    split <;> simp_all

/-- A DRIVE that reaches its slot with an operand the mode codes acts there by the form it asks. -/
theorem cmdDrive_reaches {s : State} {p : Party} {i : Fin 8} {op : Word} {form : DriveForm} (h : s.Reaches p i)
    (hform : driveForm (s.mode i) op = some form) (arg : Nibble) :
    cmdDrive p (slotField i) arg op s = driveSlot form i (s.restartHold p i) := by
  simp [cmdDrive, h.2.1, hform, State.onHeldSlot_reaches _ h]

/-- A DRIVE that is carried out: what its slot has done stands in the part, with the reply. -/
theorem State.Reaches.drive_completes {s u : State} {p : Party} {i : Fin 8} {arg : Nibble} {op : Word}
    {form : DriveForm} (h : s.Reaches p i) (hform : driveForm (s.mode i) op = some form)
    (hact : driveSlot form i (s.restartHold p i) = (u, Reply.bare .ok)) (honly : s.OnlySlotTripsAndRails i u)
    (hports : s.PortsKept u) :
    ∃ t, exec (.drive p (slotField i) arg op) s = .next t ∧ s.Answered p .drive (slotField i) .ok [] t
      ∧ t.slot i = u.slot i ∧ (t.pair (pairOf i)).rails = (u.pair (pairOf i)).rails
      ∧ (∀ c, (t.channel c).tripCount = (u.channel c).tripCount) ∧ s.OnlySlotTripsAndRails i t := by
  obtain ⟨t, hexec, hans, ht⟩ : ∃ t, exec (.drive p (slotField i) arg op) s = .next t
      ∧ s.Answered p .drive (slotField i) .ok [] t ∧ u.OnlyPorts t :=
    State.command_replies h.1 .drive ((cmdDrive_reaches h hform arg).trans hact) hports
  refine ⟨t, hexec, hans, State.OnlyPorts.slot ht i, ?_, fun c => ?_, honly.ports ht⟩
  · rw [State.OnlyPorts.pair ht]
  · rw [State.OnlyPorts.channel ht]

/-- A DRIVE that feeds nothing: leaving MANUAL it takes the rail requests with it (R143). -/
theorem State.Reaches.drive_withoutFeed {s v : State} {p : Party} {i : Fin 8} {arg : Nibble} {op : Word}
    {form : DriveForm} (h : s.Reaches p i) (hform : driveForm (s.mode i) op = some form)
    (hact : driveSlot form i (s.restartHold p i) =
      (if (s.slot i).active.state = .manual then v.clearRails i else v, Reply.bare .ok))
    (hv : State.RunsAt i s v) (hchannel : ∀ c, v.channel c = s.channel c) :
    ∃ t, exec (.drive p (slotField i) arg op) s = .next t ∧ s.Answered p .drive (slotField i) .ok [] t
      ∧ t.slot i = v.slot i
      ∧ (t.pair (pairOf i)).rails =
          (if (s.slot i).active.state = .manual then none else (s.pair (pairOf i)).rails)
      ∧ (∀ c, (t.channel c).tripCount = (s.channel c).tripCount) ∧ s.OnlySlotTripsAndRails i t := by
  by_cases hm : (s.slot i).active.state = .manual
  · rw [if_pos hm] at hact
    obtain ⟨t, hexec, hans, hself, hrails, htrips, honly⟩ :=
      h.drive_completes (arg := arg) hform hact (hv.onlySlotTripsAndRails_modPair none) hv.portsKept
    refine ⟨t, hexec, hans, hself, hrails.trans ?_, fun c => (htrips c).trans ?_, honly⟩
    · rw [State.clearRails, State.pair_modPair_self, if_pos hm]
    · exact congrArg Channel.tripCount (hchannel c)
  · rw [if_neg hm] at hact
    obtain ⟨t, hexec, hans, hself, hrails, htrips, honly⟩ :=
      h.drive_completes (arg := arg) hform hact hv.onlySlotTripsAndRails hv.portsKept
    refine ⟨t, hexec, hans, hself, hrails.trans ?_, fun c => (htrips c).trans ?_, honly⟩
    · rw [hv.pair, if_neg hm]
    · rw [hchannel]

/-- Settles O34: each form of DRIVE is one update of the slot, after the hold timer's restart. -/
theorem driveFeedsBleedsOrFloats : Obligations.DriveFeedsBleedsOrFloats := by
  intro p i arg op s h sl st dual feeds rails
  have hslot := h.slot_restartHold
  have hrun := h.runsAt_restartHold
  have hrec := h.activeRecord_restartHold
  have hstate : ((s.restartHold p i).slot i).active.state = st := by rw [hslot]
  refine ⟨fun hfeed hidle hbound hheat hsupply => ?_, fun hfeed hmanual => ?_, fun hop hst => ?_, fun hop hst => ?_⟩
  · have hbound' : ((s.restartHold p i).slot i).active.bound ≠ none := by rw [hslot]; exact hbound
    have hhold : (s.restartHold p i).shelfHold = false := by
      rw [hrun.shelfHold, State.shelfHold, hheat, hsupply]
      rfl
    have hu := hrun.trans ((State.runsAt_modSlot i _ Slot.enterManual).trans (State.runsAt_clearTrips _ i))
    obtain ⟨t, hexec, hans, hself, hrails, htrips, honly⟩ :=
      h.drive_completes (u := (s.restartHold p i).enterManual i (railsAsked (s.mode i) op)) (arg := arg)
        (driveForm_feed hfeed) (by simp [driveSlot, hstate, hidle, hbound', hhold, State.reply])
        (hu.onlySlotTripsAndRails_modPair _) hu.portsKept
    refine ⟨t, hexec, hans, ?_, hrails.trans ?_, fun c => (htrips c).trans ?_, honly⟩
    · rw [hself, State.slot_enterManual, hslot]
      rfl
    · rw [State.enterManual, State.pair_modPair_self]
      rfl
    · have hup : ((s.restartHold p i).modSlot i Slot.enterManual).upperPaired i = false :=
        (hrun.upperPaired i).trans h.2.1
      rw [State.enterManual, State.channel_modPair, State.channel_clearTrips hup, State.modSlot_governor, hrun.governor]
      simp
  · obtain ⟨t, hexec, hans, hself, hrails, htrips, honly⟩ :=
      h.drive_completes
        (u := (s.restartHold p i).modPair (pairOf i) fun q => { q with rails := railsAsked (s.mode i) op }) (arg := arg)
        (driveForm_feed hfeed) (by simp [driveSlot, hstate, hmanual, State.reply])
        (hrun.onlySlotTripsAndRails_modPair _) hrun.portsKept
    refine ⟨t, hexec, hans, ?_, hrails.trans ?_, fun c => (htrips c).trans ?_, honly⟩
    · rw [hself, State.slot_modPair, hslot]
    · rw [State.pair_modPair_self]
      rfl
    · rw [State.channel_modPair, State.channel_restartHold]
  · subst hop
    obtain ⟨t, hexec, hans, hself, hrest⟩ :=
      h.drive_withoutFeed (v := (s.restartHold p i).enterDrain i .idle) (arg := arg) (driveForm_bleed _)
        (by rcases hst with e | e <;> simp [driveSlot, hstate, show (s.slot i).active.state = _ from e, e, State.reply])
        (hrun.trans (State.runsAt_enterDrain _ i .idle)) (s.channel_restartHold p i)
    refine ⟨t, hexec, hans, ?_, hrest⟩
    rw [hself, State.slot_enterDrain, hslot, hrec]
  · subst hop
    rcases hst with hidle | hmanual
    · obtain ⟨t, hexec, hans, hself, hrest⟩ :=
        h.drive_withoutFeed (v := s.restartHold p i) (arg := arg) (driveForm_float _)
          (by simp [driveSlot, hstate, show (s.slot i).active.state = _ from hidle, hidle, State.reply]) hrun
          (s.channel_restartHold p i)
      refine ⟨t, hexec, hans, ?_, hrest⟩
      rw [hself, hslot, if_neg (by simp [hidle])]
    · obtain ⟨t, hexec, hans, hself, hrest⟩ :=
        h.drive_withoutFeed (v := (s.restartHold p i).modSlot i fun sl => sl.enter .idle none) (arg := arg)
          (driveForm_float _)
          (by simp [driveSlot, hstate, show (s.slot i).active.state = _ from hmanual, hmanual, State.reply])
          (hrun.trans (State.runsAt_modSlot ..)) (s.channel_restartHold p i)
      refine ⟨t, hexec, hans, ?_, hrest⟩
      rw [hself, State.slot_modSlot_self, hslot, if_pos hmanual]
      rfl

/-- A command refused with the part as it was. -/
theorem State.command_refuses {s : State} {p : Party} {target : Nibble} {act : State → State × Reply} {st : Status}
    (h : s.held = false) (c : Cmd) (arg : Nibble) (hact : act s = (s, Reply.bare st)) :
    ∃ t, s.command p c target act = .next t ∧ s.RefusedPlainly ⟨p, c, target, arg⟩ st t :=
  State.command_replies h c hact ⟨rfl, rfl, rfl⟩

/-- A DRIVE refused for a condition of its slot: the hold timer has restarted, and nothing else has changed (R150). -/
theorem State.Reaches.drive_refused {s : State} {p : Party} {i : Fin 8} {arg : Nibble} {op : Word} {form : DriveForm}
    {st : Status} (h : s.Reaches p i) (hform : driveForm (s.mode i) op = some form)
    (hact : driveSlot form i (s.restartHold p i) = (s.restartHold p i, Reply.bare st)) :
    ∃ t, exec (.drive p (slotField i) arg op) s = .next t ∧ s.Answered p .drive (slotField i) st [] t
      ∧ t.slot i = { s.slot i with holdTimer := s.holdAfter p i } ∧ s.OnlySlot i t := by
  obtain ⟨t, hexec, hans, ht⟩ : ∃ t, exec (.drive p (slotField i) arg op) s = .next t
      ∧ s.Answered p .drive (slotField i) st [] t ∧ (s.restartHold p i).OnlyPorts t :=
    State.command_replies h.1 .drive ((cmdDrive_reaches h hform arg).trans hact) h.runsAt_restartHold.portsKept
  refine ⟨t, hexec, hans, ?_, h.onlySlot_restartHold.ports ht⟩
  rw [State.OnlyPorts.slot ht, h.slot_restartHold]

/-- An operand that the mode codes asks some form. -/
theorem driveForm_coded {mode : PairMode} {op : Word} (h : op.toNat ≤ 2 ∨ (op = 3 ∧ mode = .dual)) :
    ∃ form, driveForm mode op = some form := by
  rcases h with h | ⟨rfl, rfl⟩
  · have hop : op = 0 ∨ op = 1 ∨ op = 2 := by
      have hcases : op.toNat = 0 ∨ op.toNat = 1 ∨ op.toNat = 2 := by omega
      rcases hcases with e | e | e
      · exact .inl (BitVec.eq_of_toNat_eq e)
      · exact .inr (.inl (BitVec.eq_of_toNat_eq e))
      · exact .inr (.inr (BitVec.eq_of_toNat_eq e))
    rcases hop with rfl | rfl | rfl
    · exact ⟨_, driveForm_float mode⟩
    · by_cases hm : mode = .dual
      · exact ⟨_, driveForm_feed (.inr ⟨.inl rfl, hm⟩)⟩
      · exact ⟨_, driveForm_feed (.inl ⟨rfl, hm⟩)⟩
    · exact ⟨_, driveForm_bleed mode⟩
  · exact ⟨_, rfl⟩

/-- A feed in the words of the refusals. -/
theorem driveForm_feeds {mode : PairMode} {op : Word} (h : op = 1 ∨ (op = 3 ∧ mode = .dual)) :
    driveForm mode op = some (.feed (railsAsked mode op)) := by
  refine driveForm_feed ?_
  by_cases hm : mode = .dual
  · exact .inr ⟨h.imp_right And.left, hm⟩
  · exact .inl ⟨h.resolve_right fun h3 => hm h3.2, hm⟩

/-- Settles O35: the checks of DRIVE stand in the order of R181. -/
theorem driveIsRefusedInOrder : Obligations.DriveIsRefusedInOrder := by
  intro p target arg op s h n
  constructor
  · intro htarget
    exact State.command_refuses h .drive arg (by simp [cmdDrive, slotOf_none.mpr htarget, State.refuse])
  rintro i rfl coded st feeds ByState
  have hstate (hr : s.Reaches p i) : ((s.restartHold p i).slot i).active.state = st := by rw [hr.slot_restartHold]
  have hbound (hr : s.Reaches p i) : ((s.restartHold p i).slot i).active.bound = (s.slot i).active.bound := by
    rw [hr.slot_restartHold]
  refine ⟨fun hup => ?_, fun hup hcoded => ?_, fun hup hcoded hholder => ?_, fun hr hcoded hidle hmanual => ?_,
    fun hr hfeed hidle hunbound => ?_, fun hr hfeed hidle hsome hhold => ?_⟩
  · exact State.command_refuses h .drive arg (by simp [cmdDrive, hup, State.refuse])
  · exact State.command_refuses h .drive arg (by simp [cmdDrive, hup, driveForm_none hcoded, State.refuse])
  · obtain ⟨form, hform⟩ := driveForm_coded hcoded
    exact State.command_refuses h .drive arg
      (by simp [cmdDrive, hup, hform, State.onHeldSlot, hholder, State.refuse])
  · obtain ⟨form, hform⟩ := driveForm_coded hcoded
    refine hr.drive_refused hform ?_
    unfold driveSlot
    rw [hstate hr]
    cases hst : st <;> simp_all [State.reply]
  · exact hr.drive_refused (driveForm_feeds hfeed)
      (by simp [driveSlot, hstate hr, hidle, hbound hr, hunbound, State.reply])
  · have hhold' : (s.restartHold p i).shelfHold = true := hr.runsAt_restartHold.shelfHold.trans hhold
    exact hr.drive_refused (driveForm_feeds hfeed)
      (by simp [driveSlot, hstate hr, hidle, hbound hr, hsome, hhold', State.reply])

end Sys2Proof.Machine
end

section
/-!
PROOFS. A step with nothing waiting: which events are due, one microsecond's passing, and the due event taken (O3).
-/

namespace Sys2Proof.Machine

/-! ## Which events are due -/

theorem Timer.reached_iff (x : Timer) (tenths : Nat) : x.reached tenths = true ↔ tenths * 100000 ≤ x.elapsed :=
  decide_eq_true_iff

/-- The events of a slot's own timers: the end of its phase, of its LEAD, of its bench hold (R9, R141, R152). -/
theorem State.mem_slotDue (s : State) (i : Fin 8) (e : Instr) :
    e ∈ s.slotDue i ↔
      (∃ x, (s.slot i).active.timer = some x ∧ x.duration * 100000 ≤ x.elapsed
          ∧ e ∈ phaseEvent i (s.slot i).active.state)
      ∨ (∃ x, (s.slot i).active.timer = some x ∧ x.elapsed < x.duration * 100000
          ∧ (s.slot i).active.subPhase = some .lead ∧ (s.activeRecord i).standbyLead * 100000 ≤ x.elapsed
          ∧ e = .endOfLead i)
      ∨ ((s.slot i).holder = .bench ∧ (s.slot i).holdTimer = some 0 ∧ e = .holdTimerExpiry i) := by
  unfold State.slotDue
  simp only [List.mem_append]
  refine or_assoc.symm.trans (or_congr ?_ ?_) |>.symm
  · cases (s.slot i).active.timer with
    | none => simp
    | some x =>
      by_cases hx : x.duration * 100000 ≤ x.elapsed
      · simp [Timer.reached_iff, hx]
      · simp [Timer.reached_iff, hx, Nat.lt_of_not_le hx, and_assoc]
  · by_cases hh : (s.slot i).holder = .bench ∧ (s.slot i).holdTimer = some 0 <;> simp [← and_assoc, hh]

/-- The sample event of a channel, or of a lower channel's pair (R26 to R28). -/
theorem State.mem_samplesDue (s : State) (i : Fin 8) (e : Instr) :
    e ∈ s.samplesDue i ↔
      4 * (s.sdiv + 1) ≤ (s.channel i).conversion
        ∧ ((s.mode i = .separate ∧ e = .sampleArrival i (Config.analogCode i.val s.freeUsed))
          ∨ (s.mode i ≠ .separate ∧ isUpper i = false
            ∧ e = .pairSampleEvent (pairOf i) (Config.analogCode i.val s.freeUsed)
                (Config.analogCode (i.val + 1) s.freeUsed))) := by
  unfold State.samplesDue State.samplePeriod State.isPaired
  by_cases hp : 4 * (s.sdiv + 1) ≤ (s.channel i).conversion <;> by_cases hm : s.mode i = .separate <;>
    cases hu : isUpper i <;> simp [hp, hm]

theorem State.mem_programmingDue (s : State) (e : Instr) :
    e ∈ s.programmingDue ↔ (∃ x, s.programming = some x ∧ 40000 ≤ x.elapsed) ∧ e = .trimProgrammingCompletion := by
  unfold State.programmingDue
  cases s.programming with
  | none => simp
  | some x => by_cases hx : 40000 ≤ x.elapsed <;> simp [Config.programmingUs, hx]

theorem State.mem_dueEvents {s : State} (h : s.held = false) (e : Instr) :
    e ∈ s.dueEvents ↔ (∃ i, e ∈ s.slotDue i) ∨ (∃ i, e ∈ s.samplesDue i) ∨ e ∈ s.programmingDue := by
  simp [State.dueEvents, h, exists_or, or_assoc]

theorem mem_phaseEvent (i : Fin 8) (st : SlotState) (e : Instr) :
    e ∈ phaseEvent i st ↔
      (st = .runOn ∧ e = .onTimeExpiry i) ∨ (st = .runBleed ∧ e = .bleedExpiry i) ∨ (st = .runRest ∧ e = .restExpiry i)
        ∨ (st = .drain ∧ e = .drainCompletion i) := by
  cases st <;> simp [phaseEvent]

/-- An event that is due, by its kind. -/
theorem State.mem_dueEvents_iff {s : State} (h : s.held = false) (e : Instr) :
    e ∈ s.dueEvents ↔
      (∃ i, (∃ x, (s.slot i).active.timer = some x ∧ x.duration * 100000 ≤ x.elapsed)
        ∧ (((s.slot i).active.state = .runOn ∧ e = .onTimeExpiry i)
          ∨ ((s.slot i).active.state = .runBleed ∧ e = .bleedExpiry i)
          ∨ ((s.slot i).active.state = .runRest ∧ e = .restExpiry i)
          ∨ ((s.slot i).active.state = .drain ∧ e = .drainCompletion i)))
      ∨ (∃ i, (s.slot i).active.subPhase = some .lead
          ∧ (∃ x, (s.slot i).active.timer = some x ∧ (s.activeRecord i).standbyLead * 100000 ≤ x.elapsed
              ∧ x.elapsed < x.duration * 100000) ∧ e = .endOfLead i)
      ∨ (∃ i, ((s.slot i).holder = .bench ∧ (s.slot i).holdTimer = some 0) ∧ e = .holdTimerExpiry i)
      ∨ (∃ i, (s.mode i = .separate ∧ 4 * (s.sdiv + 1) ≤ (s.channel i).conversion)
          ∧ e = .sampleArrival i (Config.analogCode i.val s.freeUsed))
      ∨ (∃ i, (s.mode i ≠ .separate ∧ 4 * (s.sdiv + 1) ≤ (s.channel i).conversion) ∧ isUpper i = false
          ∧ e = .pairSampleEvent (pairOf i) (Config.analogCode i.val s.freeUsed)
              (Config.analogCode (i.val + 1) s.freeUsed))
      ∨ ((∃ x, s.programming = some x ∧ 40000 ≤ x.elapsed) ∧ e = .trimProgrammingCompletion) := by
  simp only [State.mem_dueEvents h, State.mem_slotDue, State.mem_samplesDue, State.mem_programmingDue, mem_phaseEvent]
  constructor
  · rintro (⟨i, ⟨x, ht, hx, he⟩ | ⟨x, ht, hlt, hsub, hlead, he⟩ | ⟨hb, h0, he⟩⟩ | ⟨i, hp, ⟨hm, he⟩ | ⟨hm, hu, he⟩⟩ | he)
    · exact .inl ⟨i, ⟨x, ht, hx⟩, he⟩
    · exact .inr (.inl ⟨i, hsub, ⟨x, ht, hlead, hlt⟩, he⟩)
    · exact .inr (.inr (.inl ⟨i, ⟨hb, h0⟩, he⟩))
    · exact .inr (.inr (.inr (.inl ⟨i, ⟨hm, hp⟩, he⟩)))
    · exact .inr (.inr (.inr (.inr (.inl ⟨i, ⟨hm, hp⟩, hu, he⟩))))
    · exact .inr (.inr (.inr (.inr (.inr he))))
  · rintro (⟨i, ⟨x, ht, hx⟩, he⟩ | ⟨i, hsub, ⟨x, ht, hlead, hlt⟩, he⟩ | ⟨i, ⟨hb, h0⟩, he⟩ | ⟨i, ⟨hm, hp⟩, he⟩
      | ⟨i, ⟨hm, hp⟩, hu, he⟩ | he)
    · exact .inl ⟨i, .inl ⟨x, ht, hx, he⟩⟩
    · exact .inl ⟨i, .inr (.inl ⟨x, ht, hlt, hsub, hlead, he⟩)⟩
    · exact .inl ⟨i, .inr (.inr ⟨hb, h0, he⟩)⟩
    · exact .inr (.inl ⟨i, hp, .inl ⟨hm, he⟩⟩)
    · exact .inr (.inl ⟨i, hp, .inr ⟨hm, hu, he⟩⟩)
    · exact .inr (.inr he)

/-- A pair's event comes with its lower channel's conversions. -/
theorem exists_lower_iff (P : Fin 8 → Prop) (p : Fin 4) :
    (∃ i, P i ∧ isUpper i = false ∧ p = pairOf i) ↔ P (lowerOf p) := by
  constructor
  · rintro ⟨i, hP, hu, rfl⟩
    rwa [eq_lowerOf_of_not_upper hu]
  · exact fun hP => ⟨lowerOf p, hP, isUpper_lowerOf p, (pairOf_lowerOf p).symm⟩

/-! ## A step with nothing waiting -/

theorem firstDue_eq_none {due : List Instr} {used : Nat} (h : firstDue due used = none) : due = [] := by
  cases due with
  | nil => rfl
  | cons e rest => cases rest <;> cases h

theorem step_of_idle {s : State} (h : s.pending = []) : step s = idleStep s := by
  unfold step
  rw [h]

theorem step_of_none_due {s : State} (h : s.pending = []) (hdue : s.dueEvents = []) : step s = .next s.tick := by
  rw [step_of_idle h, idleStep, hdue]
  rfl

theorem State.dueEvents_of_held {s : State} (h : s.held = true) : s.dueEvents = [] := by simp [State.dueEvents, h]

/-- Settles O3: an idle step is a microsecond where nothing is due, else the event taken first. -/
theorem idleStepPassesTimeOrTakesTheDueEvent : Obligations.IdleStepPassesTimeOrTakesTheDueEvent := by
  refine ⟨fun s hq h => ?_, fun s hq h hdue => ?_, fun s hq hdue => ?_, fun s h => ⟨fun i => ?_, fun p => ?_, ?_, ?_⟩⟩
  · rw [step_of_none_due hq (State.dueEvents_of_held h), State.tick, if_pos h]
  · refine ⟨s.tick, step_of_none_due hq hdue, fun i => ?_, fun c => ?_, ?_, ?_⟩
    · rw [State.slot_tick, h]
      rfl
    · simp [State.tick, h, State.channel]
    · simp [State.tick, h]
    · simp [State.tick, h]
  · cases hfirst : firstDue s.dueEvents s.freeUsed with
    | none => exact absurd (firstDue_eq_none hfirst) hdue
    | some e =>
      refine ⟨e, firstDue_mem hfirst, ?_⟩
      rw [step_of_idle hq, idleStep, hfirst]
      rfl
  · simp [State.mem_dueEvents_iff h, and_comm]
  · have hmode : s.mode (lowerOf p) = (s.pair p).mode := by rw [State.mode, pairOf_lowerOf]
    simpa [State.mem_dueEvents_iff h, hmode] using
      exists_lower_iff (fun i => s.mode i ≠ .separate ∧ 4 * (s.sdiv + 1) ≤ (s.channel i).conversion) p
  · simp [State.mem_dueEvents_iff h]
  · intro e he
    rcases (State.mem_dueEvents_iff h e).mp he with ⟨i, -, he⟩ | ⟨i, -, -, he⟩ | ⟨i, -, he⟩ | ⟨i, -, he⟩ | ⟨i, -, -, he⟩
      | ⟨-, he⟩
    · rcases he with ⟨-, he⟩ | ⟨-, he⟩ | ⟨-, he⟩ | ⟨-, he⟩ <;> exact .inl ⟨i, by simp [he]⟩
    · exact .inl ⟨i, by simp [he]⟩
    · exact .inl ⟨i, by simp [he]⟩
    · exact .inl ⟨i, by simp [he]⟩
    · exact .inr (.inl ⟨_, _, _, he⟩)
    · exact .inr (.inr he)

end Sys2Proof.Machine
end

section
/-!
PROOFS. What stands without a step: the values after the first power-on (O4), and a channel's outputs (O27).
-/

namespace Sys2Proof.Machine

/-! ## After the first power-on -/

@[simp] theorem State.slot_reset (i : Fin 8) : State.reset.slot i = Slot.reset := by simp [State.slot, State.reset]

@[simp] theorem State.channel_reset (c : Fin 8) : State.reset.channel c = Channel.factory := by
  simp [State.channel, State.reset]

@[simp] theorem State.pair_reset (p : Fin 4) : State.reset.pair p = Pair.reset := by simp [State.pair, State.reset]

@[simp] theorem State.profile_reset (p : Fin 16) :
    State.reset.profile p = { record := ProfileRecord.empty, useCount := 0 } := by
  simp [State.profile, State.reset]

/-- Settles O4: every place of each block is written with the same value. -/
theorem resetStateHoldsThePowerOnValues : Obligations.ResetStateHoldsThePowerOnValues := by
  refine ⟨fun i => ?_, fun i => ?_, fun c => ?_, fun p => ?_, fun p => ?_, rfl, rfl, rfl, rfl, rfl, fun p => ?_,
    fun p => ?_, rfl, rfl, rfl, rfl, rfl, rfl⟩
  · rw [State.slot_reset]
    rfl
  · rw [State.slot_reset]
    exact ⟨rfl, rfl, rfl, rfl, rfl, rfl, rfl, fun n => by simp [Slot.reset]⟩
  · rw [State.channel_reset]
    exact ⟨rfl, rfl, rfl, rfl, rfl, rfl, rfl⟩
  · rw [State.pair_reset]
    rfl
  · rw [State.profile_reset]
    exact ⟨rfl, rfl⟩
  · cases p <;> rfl
  · cases p <;> rfl

/-! ## The outputs of a channel -/

@[simp] theorem State.pairOf_governor (s : State) (ch : Fin 8) : pairOf (s.governor ch) = pairOf ch := by
  unfold State.governor
  split <;> simp

@[simp] theorem State.mode_governor (s : State) (ch : Fin 8) : s.mode (s.governor ch) = s.mode ch := by
  simp [State.mode]

theorem State.governor_eq (s : State) (ch : Fin 8) :
    s.governor ch = if s.mode ch = .separate then ch else lowerOf (pairOf ch) := by
  unfold State.governor State.isPaired
  by_cases h : s.mode ch = .separate <;> simp [h]

/-- The main limit by the sub-phase (R2). -/
theorem mainLimit_eq (r : ProfileRecord) (sub : Option SubPhase) :
    mainLimit r sub = if sub = some .surge then r.surgeLimit else r.soakLimit := by
  rcases sub with _ | (_ | _ | _) <;> rfl

/-- A fed slot's channels, on a part that is not held and under no shelf hold. -/
theorem State.channelDrive_of_fed {s : State} {ch : Fin 8} (h : s.held = false)
    (hs : (s.slot (s.governor ch)).active.state = .runOn ∨ (s.slot (s.governor ch)).active.state = .manual)
    (hhold : s.shelfHold = false) : s.channelDrive ch = s.feedDrive ch (s.governor ch) := by
  unfold State.channelDrive
  rcases hs with e | e <;> simp [h, e, hhold]

/-- The rails of a fed DUAL pair: the standby on x, the main on y past LEAD or as requested (R140). -/
theorem State.feedDrive_dual {s : State} {ch gov : Fin 8} (hm : s.mode gov = .dual)
    (hs : (s.slot gov).active.state = .runOn ∨ (s.slot gov).active.state = .manual) :
    s.feedDrive ch gov =
      if isUpper ch then
        if ((s.slot gov).active.state = .runOn ∧ (s.slot gov).active.subPhase ≠ some .lead)
            ∨ ((s.slot gov).active.state = .manual ∧ (s.pair (pairOf gov)).rails = some .both) then
          .feed (mainLimit (s.activeRecord gov) (s.slot gov).active.subPhase)
        else .float
      else if (s.slot gov).active.state = .runOn ∨ (s.pair (pairOf gov)).rails ≠ none then
        .feed (s.activeRecord gov).standbyLimit
      else .float := by
  unfold State.feedDrive
  rw [hm]
  rcases hs with e | e
  · by_cases hsub : (s.slot gov).active.subPhase = some .lead <;> simp [e, hsub]
  · by_cases hr : (s.pair (pairOf gov)).rails = none <;> simp [e, hr]

/-- Settles O27: by the state of the governing slot's context, then by the pair's mode. -/
theorem channelOutputsFollowTheGoverningContext : Obligations.ChannelOutputsFollowTheGoverningContext := by
  intro s ch gov c r fed limit standbyFed mainFed
  have hlimit : mainLimit r c.subPhase = limit := mainLimit_eq ..
  refine ⟨s.governor_eq ch, fun h => ?_, fun h hst => ?_, fun hst => ?_, fun hst hhold => ?_,
    fun h hst hhold hm => ?_, fun h hst hhold hm => ?_, fun h hst hhold hm hu => ?_, fun h hst hhold hm hu => ?_⟩
  · simp [State.channelDrive, h]
  · rcases hst with e | e <;> simp [State.channelDrive, h, show (s.slot (s.governor ch)).active.state = _ from e]
  · rcases hst with e | e | e | e <;> simp [State.channelDrive, show (s.slot (s.governor ch)).active.state = _ from e]
  · rcases hst with e | e <;> simp [State.channelDrive, show (s.slot (s.governor ch)).active.state = _ from e, hhold]
  · rw [State.channelDrive_of_fed h hst hhold, State.feedDrive, State.mode_governor, hm, ← hlimit]
  · rw [State.channelDrive_of_fed h hst hhold, State.feedDrive, State.mode_governor, hm, ← hlimit]
  · rw [State.channelDrive_of_fed h hst hhold, State.feedDrive_dual ((s.mode_governor ch).trans hm) hst,
      State.pairOf_governor, hu]
    rfl
  · rw [State.channelDrive_of_fed h hst hhold, State.feedDrive_dual ((s.mode_governor ch).trans hm) hst,
      State.pairOf_governor, hu, ← hlimit]
    rfl

end Sys2Proof.Machine
end

section
/-!
PROOFS. STATUS reports the slot (O36): the fields of a word that is put together, and the five words.
-/

namespace Sys2Proof.Machine

/-! ## Fields of words -/

theorem bitsOf_or (a b : Word) (lo width : Nat) : bitsOf (a ||| b) lo width = bitsOf a lo width ||| bitsOf b lo width := by
  simp [bitsOf, BitVec.extractLsb'_or]

theorem getLsbD_field (width lo v n : Nat) :
    (field width lo v).getLsbD n = (decide (n < 32) && decide (lo ≤ n) && decide (n - lo < width) && v.testBit (n - lo)) := by
  simp only [field, BitVec.getLsbD_shiftLeft, BitVec.getLsbD_setWidth, BitVec.getLsbD_ofNat]
  grind

/-- A field reads back as placed. -/
theorem bitsOf_field_same {width lo : Nat} (h : lo + width ≤ 32) (v : Nat) :
    bitsOf (field width lo v) lo width = v % 2 ^ width := by
  have e : (field width lo v).extractLsb' lo width = BitVec.ofNat width v := by
    ext n hn
    have h32 : lo + n < 32 := by omega
    rw [BitVec.getElem_extractLsb', getLsbD_field, ← BitVec.getLsbD_eq_getElem, BitVec.getLsbD_ofNat]
    simp [h32, hn]
  rw [bitsOf, e, BitVec.toNat_ofNat]

/-- A field stands clear of the others. -/
theorem bitsOf_field_other {width lo width' lo' : Nat} (h : lo' + width' ≤ lo ∨ lo + width ≤ lo') (v : Nat) :
    bitsOf (field width lo v) lo' width' = 0 := by
  have e : (field width lo v).extractLsb' lo' width' = 0#width' := by
    ext n hn
    simp only [BitVec.getElem_extractLsb', getLsbD_field, BitVec.getElem_zero]
    grind
  rw [bitsOf, e]
  rfl

theorem toNat_word (v : Nat) : (field 32 0 v).toNat = v % 4294967296 := by simp [field]

theorem getLsbD_eq_bitsOf (w : Word) (n : Nat) : w.getLsbD n = decide (bitsOf w n 1 = 1) := by
  have e : (w.extractLsb' n 1) = BitVec.ofBool (w.getLsbD n) := by
    ext k hk
    obtain rfl : k = 0 := by omega
    simp
  rw [bitsOf, e]
  cases w.getLsbD n <;> rfl

/-! ## The words of STATUS -/

/-- The first word of a STATUS reply (12.6). -/
def Slot.statusHead (sl : Slot) : Word :=
  let c := sl.active
  field 1 0 (partyCode sl.holder) ||| field 4 4 c.state.code ||| field 2 8 (drainNextCode c.drainNext)
    ||| field 2 10 (subPhaseCode c.subPhase) ||| field 8 16 (boundCode c.bound) ||| field 4 24 c.checker.stage
    ||| field 2 28 c.checker.condition.code ||| flagAt 30 sl.withheld.isSome ||| flagAt 31 sl.parked.isSome

/-- The last word of a STATUS reply, with the hold timer given. -/
def Slot.statusTail (sl : Slot) (hold : Option Nat) : Word :=
  field 4 0 sl.validCount ||| field 3 4 sl.top.val
    ||| field 4 8 (match sl.parked with | none => 0 | some pc => pc.state.code) ||| field 8 16 (holdMinutes hold)

/-- The report is of the slot as it was, with the hold timer as restarted (log entry 11). -/
theorem State.statusWords_restartHold (s : State) (p : Party) (i : Fin 8) :
    (s.restartHold p i).statusWords i =
      [(s.slot i).statusHead, halves (s.slot i).active.d (remainingTenths (s.slot i).active.timer),
        field 32 0 (s.slot i).active.k,
        halves (s.channel i).present (if s.lowerPaired i then (s.channel (upperOf (pairOf i))).present else 0),
        (s.slot i).statusTail (s.readHold p i (s.governor i))] := by
  have hlower : (s.restartHold p i).lowerPaired i = s.lowerPaired i := by
    rw [s.restartHold_frame p i]
    rfl
  have hgovernor : (s.restartHold p i).governor i = s.governor i := by
    rw [s.restartHold_frame p i]
    rfl
  unfold State.statusWords
  simp only [State.slot_restartHold, State.channel_restartHold, hlower, hgovernor]
  rfl

theorem bitsOf_halves_low (lo hi : Nat) : bitsOf (halves lo hi) 0 16 = lo % 65536 := by
  simp [halves, bitsOf_or, bitsOf_field_same, bitsOf_field_other]

theorem bitsOf_halves_high (lo hi : Nat) : bitsOf (halves lo hi) 16 16 = hi % 65536 := by
  simp [halves, bitsOf_or, bitsOf_field_same, bitsOf_field_other]

theorem Slot.statusHead_fields (sl : Slot) :
    bitsOf sl.statusHead 0 1 = partyCode sl.holder % 2 ∧ bitsOf sl.statusHead 4 4 = sl.active.state.code % 16
      ∧ bitsOf sl.statusHead 8 2 = drainNextCode sl.active.drainNext % 4
      ∧ bitsOf sl.statusHead 10 2 = subPhaseCode sl.active.subPhase % 4
      ∧ bitsOf sl.statusHead 16 8 = boundCode sl.active.bound % 256
      ∧ bitsOf sl.statusHead 24 4 = sl.active.checker.stage % 16
      ∧ bitsOf sl.statusHead 28 2 = sl.active.checker.condition.code % 4
      ∧ bitsOf sl.statusHead 30 1 = sl.withheld.isSome.toNat % 2
      ∧ bitsOf sl.statusHead 31 1 = sl.parked.isSome.toNat % 2 := by
  simp [Slot.statusHead, flagAt, bitsOf_or, bitsOf_field_same, bitsOf_field_other]

theorem Slot.statusTail_fields (sl : Slot) (hold : Option Nat) :
    bitsOf (sl.statusTail hold) 0 4 = sl.validCount % 16 ∧ bitsOf (sl.statusTail hold) 4 3 = sl.top.val % 8
      ∧ bitsOf (sl.statusTail hold) 8 4 = (match sl.parked with | none => 0 | some pc => pc.state.code) % 16
      ∧ bitsOf (sl.statusTail hold) 16 8 = holdMinutes hold % 256 := by
  simp [Slot.statusTail, bitsOf_or, bitsOf_field_same, bitsOf_field_other]

theorem Slot.validCount_le (sl : Slot) : sl.validCount ≤ 8 := List.countP_le_length.trans (by simp)

theorem SlotState.code_lt (st : SlotState) : st.code < 16 := by cases st <;> decide

/-- The time left in a phase, in 0.1 s rounded up, fits its half of a word. -/
theorem remainingTenths_bounds (x : Timer) :
    remainingTenths (some x) ≤ x.duration ∧ x.duration * 100000 ≤ remainingTenths (some x) * 100000 + x.elapsed
      ∧ (remainingTenths (some x) * 100000 + x.elapsed < x.duration * 100000 + 100000
          ∨ (remainingTenths (some x) = 0 ∧ x.duration * 100000 ≤ x.elapsed)) := by
  have e : remainingTenths (some x) = (x.duration * 100000 - x.elapsed + 99999) / 100000 := rfl
  rw [e]
  omega

/-- The time left on a hold timer, in minutes rounded up. -/
theorem holdMinutes_bounds (us : Nat) :
    us ≤ holdMinutes (some us) * 60000000 ∧ holdMinutes (some us) * 60000000 < us + 60000000 := by
  have e : holdMinutes (some us) = (us + 59999999) / 60000000 := rfl
  rw [e]
  omega

/-- Besides the ports, a read leaves what the hold timer's restart leaves (R150). -/
theorem State.onlyReadHold_restartHold {s t : State} {p : Party} {i : Fin 8} (ht : (s.restartHold p i).OnlyPorts t) :
    s.OnlyReadHold p i t := by
  refine ⟨fun j => ?_, ?_⟩
  · rw [State.OnlyPorts.slot ht, State.slot_restartHold]
  · rw [ht, s.restartHold_frame p i]

/-- Settles O36: each word is read back field by field. -/
theorem statusReportsTheSlot : Obligations.StatusReportsTheSlot := by
  intro p i arg s h sl c stateCode hold
  have hcode (st : SlotState) : st.code = stateCode st := by cases st <;> rfl
  have hports : s.PortsKept (s.restartHold p i) := by
    rw [s.restartHold_frame p i]
    exact ⟨rfl, rfl, rfl⟩
  obtain ⟨t, hexec, hans, ht⟩ : ∃ t, exec (.status p (slotField i) arg) s = .next t
      ∧ s.Answered p .status (slotField i) .ok ((s.restartHold p i).statusWords i) t
      ∧ (s.restartHold p i).OnlyPorts t :=
    State.command_completes (r := Reply.report ((s.restartHold p i).statusWords i)) h .status
      (by rw [cmdStatus, State.onAnySlot_slot]) hports
  rw [State.statusWords_restartHold] at hans
  obtain ⟨hholder, hstate, hnext, hsub, hbound, hstage, hcondition, hwithheld, hparked⟩ := sl.statusHead_fields
  obtain ⟨hcount, htop, hpark, hminutes⟩ := sl.statusTail_fields hold
  refine ⟨t, _, _, _, _, _, hexec, hans, State.onlyReadHold_restartHold ht, ?_, ?_, ?_, ?_, ?_, hstage, ?_, ?_, ?_,
    bitsOf_halves_low .., fun hx => ?_, fun x hx hlt => ?_, fun x hx hlt => ?_, ?_, bitsOf_halves_low .., ?_, ?_, ?_,
    fun pc hpc => ?_, fun hx => ?_, fun us hx hle => ?_⟩
  · rw [getLsbD_eq_bitsOf, hholder]
    cases sl.holder <;> decide
  · rw [hstate, ← hcode, Nat.mod_eq_of_lt (SlotState.code_lt _)]
  · rw [hnext]
    rcases sl.active.drainNext with _ | (_ | _ | _) <;> rfl
  · rw [hsub]
    rcases sl.active.subPhase with _ | (_ | _ | _) <;> rfl
  · rw [hbound]
    cases sl.active.bound with
    | none => rfl
    | some q => exact Nat.mod_eq_of_lt (Nat.lt_trans q.isLt (by decide))
  · rw [hcondition]
    cases sl.active.checker.condition <;> rfl
  · rw [getLsbD_eq_bitsOf, hwithheld]
    cases sl.withheld.isSome <;> rfl
  · rw [getLsbD_eq_bitsOf, hparked]
    cases sl.parked.isSome <;> rfl
  · rw [bitsOf_halves_high, hx]
    rfl
  · obtain ⟨hfits, -, hright⟩ := remainingTenths_bounds x
    rwa [bitsOf_halves_high, hx, Nat.mod_eq_of_lt (Nat.lt_of_le_of_lt hfits hlt)]
  · obtain ⟨hfits, hright, -⟩ := remainingTenths_bounds x
    rwa [bitsOf_halves_high, hx, Nat.mod_eq_of_lt (Nat.lt_of_le_of_lt hfits hlt)]
  · exact toNat_word _
  · rw [bitsOf_halves_high]
    split <;> rfl
  · rw [hcount, Nat.mod_eq_of_lt (Nat.lt_of_le_of_lt sl.validCount_le (by decide))]
  · rw [htop, Nat.mod_eq_of_lt sl.top.isLt]
  · rw [hpark, hpc, ← hcode, Nat.mod_eq_of_lt (SlotState.code_lt _)]
  · rw [hminutes, hx]
    rfl
  · obtain ⟨hlow, hhigh⟩ := holdMinutes_bounds us
    have hfits : holdMinutes hold < 256 := by
      rw [hx]
      omega
    rw [hminutes, Nat.mod_eq_of_lt hfits, hx]
    exact ⟨hlow, hhigh⟩

end Sys2Proof.Machine
end

section
/-!
PROOFS. The end of an on-phase (O52), and samples that do not trip: checked and counted (O49), or failing the signature (O50).
-/

namespace Sys2Proof.Machine

/-! ## The off-phase after a counted on-phase -/

theorem Context.countCycle_eq {c : Context} {d : Nat} (h : c.d = d) :
    c.countCycle = { c with d := if d < 65535 then d + 1 else 65535 } := by
  rw [← h, ← Context.countCycle_d]
  rfl

/-- Counting a slot's on-phase, as the statements write it. -/
theorem State.countedCycle_eq (s : State) (i : Fin 8) (v : Verdict) :
    s.countedCycle i v =
      let last := decide ((s.activeRecord i).cycleCount ≠ 0 ∧ (s.slot i).active.d + 1 = (s.activeRecord i).cycleCount)
      let out := (s.slot i).formSummary (s.env i) v last
      { out with
        active := { out.active with
          d := if (s.slot i).active.d < 65535 then (s.slot i).active.d + 1 else 65535 } } := by
  unfold State.countedCycle
  dsimp only
  rw [completesRun_eq, Context.countCycle_eq (d := (s.slot i).active.d) (by simp [Context.shiftSummary])]

theorem State.RunsAt.goesOnAtOnce_iff {i : Fin 8} {s t : State} (h : State.RunsAt i s t) (hold : Bool) (c : Context) :
    t.goesOnAtOnce hold c ↔ s.goesOnAtOnce hold c := by
  unfold State.goesOnAtOnce
  rw [h.recordOf]

/-- The off-phase that a slot enters with D risen, in a part where no more than its run has moved. -/
theorem State.RunsAt.offPhaseFollows {s w : State} {i : Fin 8} (h : State.RunsAt i s w)
    (hup : s.upperPaired i = false) {count : Fin 8 → Nat} (hcount : ∀ ch, (w.channel ch).tripCount = count ch) :
    s.OffPhaseFollows i (w.slot i) count (w.enterOffPhase i) := by
  have hrec : w.activeRecord i = s.recordOf (w.slot i).active.bound := h.recordOf _
  refine ⟨fun hb => ⟨?_, fun ch => ?_⟩, fun hb => ⟨?_, fun ch => ?_⟩⟩
  · rw [State.slot_enterOffPhase, hrec, if_pos hb]
  · rw [State.enterOffPhase_eq, hrec, if_pos hb, State.channel_modSlot, hcount]
  · rw [State.slot_enterOffPhase, hrec, if_neg (by simp [hb]), h.goneOn]
  · rw [State.enterOffPhase_eq, hrec, if_neg (by simp [hb]), State.channel_resumeRun ((h.upperPaired i).trans hup),
      hcount, h.governor]
    exact if_congr (and_congr_left' (h.goesOnAtOnce_iff ..)) rfl rfl

theorem State.RunsAt.offPhaseFollows_countOnPhase {s w : State} {i : Fin 8} {v : Verdict} (h : State.RunsAt i s w)
    (hup : s.upperPaired i = false) {count : Fin 8 → Nat} (hcount : ∀ ch, (w.channel ch).tripCount = count ch) :
    s.OffPhaseFollows i (w.countedCycle i v) count (w.countOnPhase i v) := by
  have hstep := (h.trans (w.runsAt_modSlot i fun _ => w.countedCycle i v)).offPhaseFollows hup hcount
  rwa [State.slot_modSlot_self, ← State.countOnPhase_eq] at hstep

/-! ## The on-time expiry -/

theorem Slot.closeWalk_active (sl : Slot) (env : Env) :
    (sl.closeWalk env).active.d = sl.active.d ∧ (sl.closeWalk env).active.bound = sl.active.bound
      ∧ (sl.closeWalk env).active.expiryVerdict = if sl.active.checker.condition = .done then .pass else .sigfail := by
  rw [Slot.closeWalk_eq]
  split
  · exact ⟨rfl, rfl, rfl⟩
  next h =>
    obtain ⟨hdone, -⟩ := not_or.mp h
    rw [Slot.failed_active, if_neg hdone]
    exact ⟨rfl, rfl, rfl⟩

/-- Settles O52: the walk closes, the on-phase is counted, the off-phase follows. -/
theorem onTimeExpiryCountsTheCycle : Obligations.OnTimeExpiryCountsTheCycle := by
  intro i s h
  have hexec : exec (.onTimeExpiry i) s = .next (s.onTimeExpiry i) := State.live_of_not_held _ h
  refine ⟨fun hst => ?_, fun hup hst => ?_⟩
  · rw [hexec, State.onTimeExpiry, if_neg hst]
  intro sl c r passed closed last out
  have hrun := s.runsAt_onTimeExpiry i
  refine ⟨_, hexec, ?_, hrun.portsKept, hrun.onlySlotAndTrips⟩
  obtain ⟨hd, hb, hv⟩ := (s.slot i).closeWalk_active (s.env i)
  have hcount : s.onTimeExpiry i =
      (s.modSlot i fun sl => sl.closeWalk (s.env i)).countOnPhase i (if passed then .pass else .sigfail) := by
    rw [← hv, State.onTimeExpiry, if_pos hst]
    dsimp only
    rw [State.slot_modSlot_self]
  generalize hw : (s.modSlot i fun sl => sl.closeWalk (s.env i)) = w at hcount
  have hsw : State.RunsAt i s w := hw ▸ s.runsAt_modSlot ..
  have hclosed : w.slot i = closed := by rw [← hw, State.slot_modSlot_self, Slot.closeWalk_eq]; rfl
  have hslot : w.slot i = (s.slot i).closeWalk (s.env i) := by rw [← hw, State.slot_modSlot_self]
  have henv : w.env i = s.env i := hsw.env (by rw [hslot, hb])
  have hrec : w.activeRecord i = s.activeRecord i := hsw.activeRecord (by rw [hslot, hb])
  have hcycle : w.countedCycle i (if passed then .pass else .sigfail) =
      { out with active := { out.active with d := if c.d < 65535 then c.d + 1 else 65535 } } := by
    rw [State.countedCycle_eq, henv, hrec, show (w.slot i).active.d = c.d by rw [hslot, hd], hclosed]
  rw [hcount, ← hcycle]
  refine hsw.offPhaseFollows_countOnPhase hup fun ch => ?_
  rw [← hw, State.channel_modSlot]

/-! ## Samples -/

section
variable {row : Instr} {i : Fin 8} {s u : State} (hr : s.SampleReaches row i u)
include hr

theorem sampleReaches_exec (h : s.held = false) : exec row s = .next (u.sampleAtSlot i) := by
  obtain ⟨code, rfl, hp, rfl⟩ | ⟨pr, x, y, rfl, rfl, hp, rfl⟩ := hr
  · exact (State.live_of_not_held (fun s => s.sampleArrival i code) h).trans (congrArg _ (if_neg (by simp [hp])))
  · exact (State.live_of_not_held (fun s => s.pairSample pr x y) h).trans (congrArg _ (if_pos hp))

/-- A sample brings new present currents and nothing else (R30). -/
theorem sampleReaches_frame : u = { s with channels := u.channels } := by
  obtain ⟨code, rfl, -, rfl⟩ | ⟨pr, x, y, rfl, rfl, -, rfl⟩ := hr <;> rfl

theorem sampleReaches_slot (j : Fin 8) : u.slot j = s.slot j := by
  rw [sampleReaches_frame hr]
  rfl

theorem sampleReaches_activeRecord : u.activeRecord i = s.activeRecord i := by
  rw [sampleReaches_frame hr]
  rfl

theorem sampleReaches_mode : u.mode i = s.mode i := by
  rw [sampleReaches_frame hr]
  rfl

theorem sampleReaches_upperPaired : u.upperPaired i = false := by
  have e : u.upperPaired i = s.upperPaired i := by
    rw [sampleReaches_frame hr]
    rfl
  rw [e, State.upperPaired]
  obtain ⟨code, -, hp, -⟩ | ⟨pr, x, y, -, rfl, -, -⟩ := hr <;> simp [*]

end

/-- Counting a sample reads no more than its slot, the record and the input current. -/
theorem State.RunsAt.countedSlot {i : Fin 8} {s t : State} (h : State.RunsAt i s t) (hslot : t.slot i = s.slot i) :
    t.checkerOut i = s.checkerOut i ∧ t.countedSlot i = s.countedSlot i := by
  have hrec : t.activeRecord i = s.activeRecord i := h.activeRecord (by rw [hslot])
  have hout : t.checkerOut i = s.checkerOut i := by
    simp only [State.checkerOut, hslot, hrec, h.inputCurrent]
  refine ⟨hout, ?_⟩
  simp only [State.countedSlot, hout, hslot, hrec, h.inputCurrent]

section
variable {u : State} {i : Fin 8} (hon : (u.slot i).active.state = .runOn)
  (hlead : (u.slot i).active.subPhase ≠ some .lead) (hno : ∀ ch, ¬ u.trips i ch)
include hon hlead hno

theorem State.sampleAtSlot_of_counted : u.sampleAtSlot i = (u.countTrips (u.tripChecks i)).countedSample i := by
  rw [State.sampleAtSlot_of_no_trip (.inl hon) hno]
  dsimp only
  rw [if_neg (by simp [hon]), if_neg hlead]

theorem State.sampleAtSlot_of_pass (hpass : (u.checkerOut i).2 = none) :
    u.sampleAtSlot i = (u.countTrips (u.tripChecks i)).modSlot i fun _ => u.countedSlot i := by
  obtain ⟨hout, hcounted⟩ := (u.runsAt_countTrips i (u.tripChecks i)).countedSlot (u.slot_countTrips _ i)
  rw [State.sampleAtSlot_of_counted hon hlead hno, State.countedSample_of_pass (by rw [hout, hpass]), hcounted]

theorem State.sampleAtSlot_of_fail {cause : Cause} (hfail : (u.checkerOut i).2 = some cause) :
    u.sampleAtSlot i =
      ((u.countTrips (u.tripChecks i)).modSlot i fun _ =>
        (u.countedSlot i).failed (u.activeRecord i) (u.inputCurrent i) cause).applyOnFail i := by
  have hrun := u.runsAt_countTrips i (u.tripChecks i)
  have hslot := u.slot_countTrips (u.tripChecks i) i
  obtain ⟨hout, hcounted⟩ := hrun.countedSlot hslot
  rw [State.sampleAtSlot_of_counted hon hlead hno, State.countedSample_of_fail (by rw [hout, hfail]), hcounted,
    hrun.activeRecord (by rw [hslot]), hrun.inputCurrent]

end

/-- What the checks of a sample at a fed slot leave, with the slot then changed. -/
theorem State.checked_modSlot {u : State} {i : Fin 8}
    (hs : (u.slot i).active.state = .runOn ∨ (u.slot i).active.state = .manual) (f : Slot → Slot) :
    let t := (u.countTrips (u.tripChecks i)).modSlot i f
    t.slot i = f (u.slot i) ∧ (∀ j, j ≠ i → t.slot j = u.slot j)
      ∧ (∀ ch, t.channel ch = { u.channel ch with tripCount := u.countAfter i ch })
      ∧ t = { u with slots := t.slots, channels := t.channels } := by
  have hrun := (u.runsAt_countTrips i (u.tripChecks i)).trans (State.runsAt_modSlot i _ f)
  refine ⟨?_, hrun.1, fun ch => ?_, hrun.2.2⟩
  · rw [State.slot_modSlot_self, State.slot_countTrips]
  · rw [State.channel_modSlot, State.channel_countTrips_sample hs]

theorem Context.countSample_eq (c : Context) :
    c.countSample = { c with k := if c.k < 4294967295 then c.k + 1 else 4294967295 } := by
  have hk : min (c.k + 1) 4294967295 = if c.k < 4294967295 then c.k + 1 else 4294967295 := by
    split <;> omega
  exact congrArg (fun k => { c with k := k }) hk

/-- Settles O49: with no trip a sample is counted by the state, and past LEAD checked by the open stage. -/
theorem samplesAreCheckedAndCounted : Obligations.SamplesAreCheckedAndCounted := by
  intro row i s u h hr c r current x y Checked
  have hexec := sampleReaches_exec hr h
  have hslot := sampleReaches_slot hr
  have hrec := sampleReaches_activeRecord hr
  have hstate : (u.slot i).active = c := by rw [hslot]
  refine ⟨?_, fun hon hmanual => ?_, fun hno => ⟨fun hmanual => ?_, fun hon hlead => ?_, fun hon hlead => ?_⟩⟩
  · cases hm : s.mode i <;> simp [current, x, y, State.inputCurrent, sampleReaches_mode hr, hm]
  · rw [hexec, State.sampleAtSlot_of_unfed (by rwa [hstate]) (by rwa [hstate])]
  · have hs : (u.slot i).active.state = .runOn ∨ (u.slot i).active.state = .manual := .inr (by rw [hstate, hmanual])
    obtain ⟨hself, hothers, htrips, hframe⟩ :=
      State.checked_modSlot hs fun sl => { sl with active := sl.active.countSample }
    refine ⟨_, ?_, ?_, hothers, htrips, hframe⟩
    · rw [hexec, State.sampleAtSlot_of_no_trip hs hno, hstate]
      dsimp only
      rw [if_pos hmanual]
    · rw [hself, hslot, Context.countSample_eq]
  · have hs : (u.slot i).active.state = .runOn ∨ (u.slot i).active.state = .manual := .inl (by rw [hstate, hon])
    obtain ⟨hself, hothers, htrips, hframe⟩ := State.checked_modSlot hs id
    rw [State.modSlot_self (i := i) (f := id) rfl] at hself hothers htrips hframe
    refine ⟨_, ?_, hself.trans (hslot i), hothers, htrips, hframe⟩
    rw [hexec, State.sampleAtSlot_of_no_trip hs hno, hstate]
    dsimp only
    rw [if_neg (by simp [hon]), if_pos hlead]
  · intro sl surge out hpass
    have hs : (u.slot i).active.state = .runOn ∨ (u.slot i).active.state = .manual := .inl (by rw [hstate, hon])
    have hout : u.checkerOut i = out := by
      unfold State.checkerOut
      rw [hslot, hrec]
    have hcounted : u.countedSlot i = { sl with active := { sl.active with checker := out.1 } } := by
      unfold State.countedSlot
      rw [hout, hslot, hrec]
    obtain ⟨hself, hothers, htrips, hframe⟩ := State.checked_modSlot hs fun _ => u.countedSlot i
    refine ⟨_, ?_, hself.trans hcounted, hothers, htrips, hframe⟩
    rw [hexec, State.sampleAtSlot_of_pass (by rw [hstate, hon]) (by rwa [hstate]) hno (by rw [hout, hpass])]

/-- Settles O50: the stage's failure is recorded at the slot, and the profile's on-fail action follows. -/
theorem signatureFailureActsAsTheProfileSays : Obligations.SignatureFailureActsAsTheProfileSays := by
  intro row i s u h hr hon hlead hno c r current sl surge out last cause hfail failed cut
  have hslot := sampleReaches_slot hr i
  have hrec := sampleReaches_activeRecord hr
  have hon' : (u.slot i).active.state = .runOn := by rw [hslot, hon]
  have hout : u.checkerOut i = out := by
    unfold State.checkerOut
    rw [hslot, hrec]
  have hfailed : (u.countedSlot i).failed (u.activeRecord i) (u.inputCurrent i) cause = failed := by
    unfold State.countedSlot
    rw [hout, hslot, hrec]
  obtain ⟨hself, -, htrips, -⟩ := State.checked_modSlot (.inl hon') fun _ => failed
  have hrun : State.RunsAt i u ((u.countTrips (u.tripChecks i)).modSlot i fun _ => failed) :=
    (u.runsAt_countTrips i _).trans (State.runsAt_modSlot ..)
  have hexec := sampleReaches_exec hr h
  rw [State.sampleAtSlot_of_fail hon' (by rwa [hslot]) hno (by rw [hout, hfail]), hfailed] at hexec
  generalize (u.countTrips (u.tripChecks i)).modSlot i (fun _ => failed) = w at hself htrips hrun hexec
  have hbound : failed.active.bound = (u.slot i).active.bound ∧ failed.active.d = c.d := by
    obtain ⟨-, hb, hd, -⟩ := u.countedSlot_kept i
    rw [← hfailed, Slot.failed_active]
    exact ⟨hb, hd.trans (by rw [hslot])⟩
  have henv : w.env i = u.env i := hrun.env (by rw [hself, hbound.1])
  have hrec' : w.activeRecord i = r := (hrun.activeRecord (by rw [hself, hbound.1])).trans hrec
  have htotal := hrun.trans (w.runsAt_applyOnFail i)
  refine ⟨_, hexec, fun ha => ?_, fun ha => ?_, fun ha => ?_, htotal.portsKept, htotal.onlySlotAndTrips⟩
  · rw [State.applyOnFail, hrec', ha]
    exact ⟨hself, fun ch => by rw [htrips]⟩
  · rw [State.applyOnFail, hrec', ha]
    refine ⟨?_, fun ch => ?_⟩
    · dsimp only
      rw [State.slot_abandon_enterDrain, hself, henv, hrec']
    · exact congrArg Channel.tripCount (htrips ch)
  · rw [State.applyOnFail, hrec', ha]
    have hcycle : w.countedCycle i .sigfail =
        { cut with active := { cut.active with d := if c.d < 65535 then c.d + 1 else 65535 } } := by
      rw [State.countedCycle_eq, henv, hrec', hself, hbound.2]
    rw [← hcycle]
    exact hrun.offPhaseFollows_countOnPhase (sampleReaches_upperPaired hr) fun ch => by rw [htrips]

end Sys2Proof.Machine
end

section
/-!
PROOFS. The ends of the bleed, the rest, the lead and a drain move the slot on (O53).
-/

namespace Sys2Proof.Machine

/-! ## Settling a restored context -/

theorem State.settleRestored_of_inRun {s : State} {i : Fin 8} (h : (s.slot i).active.state.inRun = true) :
    s.settleRestored i = s.resumeRun i s.shelfHold := by
  rw [State.settleRestored_eq]
  cases e : (s.slot i).active.state <;> simp_all [SlotState.inRun]

theorem State.settleRestored_of_rest {s : State} {i : Fin 8}
    (h : (s.slot i).active.state = .idle ∨ (s.slot i).active.state = .faulted) :
    s.settleRestored i = s.modSlot i fun sl => sl.enter (s.slot i).active.state none := by
  rw [State.settleRestored_eq]
  rcases h with e | e <;> rw [e]

theorem State.runsAt_settleRestored (s : State) (i : Fin 8) : State.RunsAt i s (s.settleRestored i) := by
  rw [State.settleRestored_eq]
  split
  · exact s.runsAt_modSlot ..
  iterate 4 exact s.runsAt_resumeRun ..
  all_goals exact s.runsAt_modSlot ..

/-- Slot `i` with its binding given up and the context `c` in its place: a restore before it settles (R156). -/
def State.unparked (s : State) (i : Fin 8) (c : Context) : State :=
  (s.releaseBinding i).modSlot i fun sl => { sl with active := c, parked := none }

theorem State.restore_eq {s : State} {i : Fin 8} {c : Context} (h : (s.slot i).parked = some c) :
    s.restore i = (s.unparked i c).settleRestored i := by
  have hp : ((s.releaseBinding i).slot i).parked = some c := by rw [State.slot_releaseBinding, if_pos rfl, h]
  unfold State.restore State.unparked
  dsimp only
  rw [hp]

theorem State.slot_unparked (s : State) (i : Fin 8) (c : Context) :
    (s.unparked i c).slot i = { s.slot i with active := c, parked := none } := by
  rw [State.unparked, State.slot_modSlot_self, State.slot_releaseBinding, if_pos rfl]

/-- Only slot `i`, and the use count of the profile it was bound to, have changed. -/
theorem State.unparked_frame (s : State) (i : Fin 8) (c : Context) :
    s.unparked i c = { s with slots := (s.unparked i c).slots, profiles := (s.unparked i c).profiles } := by
  unfold State.unparked
  rw [s.releaseBinding_frame i]
  rfl

theorem State.slot_unparked_ne (s : State) {i j : Fin 8} (c : Context) (h : j ≠ i) :
    (s.unparked i c).slot j = s.slot j := by
  rw [State.unparked, State.slot_modSlot_ne _ _ h, State.slot_releaseBinding, if_neg h]

theorem State.recordOf_unparked (s : State) (i : Fin 8) (c : Context) : (s.unparked i c).recordOf = s.recordOf :=
  s.recordOf_releaseBinding i

/-- What a run that goes on in an unparked context comes to. -/
theorem State.goneOn_unparked (s : State) (i : Fin 8) (hold : Bool) (c : Context) :
    (s.unparked i c).goneOn i hold ((s.unparked i c).slot i) c =
      s.goneOn i hold { s.slot i with parked := none } c := by
  have hmode : (s.unparked i c).mode i = s.mode i := by
    rw [s.unparked_frame i c]
    rfl
  unfold State.goneOn
  rw [State.recordOf_unparked, State.slot_unparked, hmode]
  rfl

/-- A restore settles the parked context as its state says, and gives up the old binding. -/
theorem State.restores {s : State} {i : Fin 8} {c : Context} (hup : s.upperPaired i = false)
    (h : (s.slot i).parked = some c) :
    s.Restores i { s.slot i with parked := none } c (s.restore i) := by
  have hslot := s.slot_unparked i c
  have hstate : ((s.unparked i c).slot i).active.state = c.state := by rw [hslot]
  have hchannel (ch : Fin 8) : (s.unparked i c).channel ch = s.channel ch := by
    rw [s.unparked_frame i c]
    rfl
  rw [State.restore_eq h]
  refine ⟨fun hst => ?_, fun hst => ?_⟩
  · rw [State.settleRestored_of_rest (by rwa [hstate]), hstate]
    refine ⟨?_, fun ch => ?_⟩
    · rw [State.slot_modSlot_self, hslot]
      rfl
    · rw [State.channel_modSlot, hchannel]
  · have hin : ((s.unparked i c).slot i).active.state.inRun = true := by
      rw [hstate]
      rcases hst with e | e | e | e <;> rw [e] <;> rfl
    have hhold : (s.unparked i c).shelfHold = s.shelfHold := by
      rw [s.unparked_frame i c]
      rfl
    have hup' : (s.unparked i c).upperPaired i = false := by
      rw [s.unparked_frame i c]
      exact hup
    have hgovernor (ch : Fin 8) : (s.unparked i c).governor ch = s.governor ch := by
      rw [s.unparked_frame i c]
      rfl
    have hactive : ((s.unparked i c).slot i).active = c := by rw [hslot]
    rw [State.settleRestored_of_inRun hin, hhold]
    refine ⟨?_, fun ch => ?_⟩
    · rw [State.slot_resumeRun, hactive, State.goneOn_unparked]
    · rw [State.channel_resumeRun hup', hactive, hgovernor, hchannel]
      unfold State.goesOnAtOnce
      rw [State.recordOf_unparked]

/-- How far a restore reaches: slot `i`, its channels' trip counts, and the use count of the binding given up (R53). -/
theorem State.restore_reach {s : State} {i : Fin 8} {c : Context} (h : (s.slot i).parked = some c) :
    (∀ j, j ≠ i → (s.restore i).slot j = s.slot j)
      ∧ (∀ ch, (s.restore i).channel ch =
          { s.channel ch with tripCount := ((s.restore i).channel ch).tripCount })
      ∧ s.ReleasesBinding i (s.restore i)
      ∧ s.restore i =
          { s with
            slots := (s.restore i).slots, channels := (s.restore i).channels, profiles := (s.restore i).profiles } := by
  have hrun := (s.unparked i c).runsAt_settleRestored i
  rw [← State.restore_eq h] at hrun
  have hchannel (ch : Fin 8) : (s.unparked i c).channel ch = s.channel ch := by
    rw [s.unparked_frame i c]
    rfl
  refine ⟨fun j hj => (hrun.slot_ne hj).trans (s.slot_unparked_ne c hj), fun ch => ?_, fun q => ?_, ?_⟩
  · rw [← hchannel ch]
    exact hrun.2.1 ch
  · exact (hrun.profile q).trans (s.profile_releaseBinding i q)
  · rw [hrun.2.2, s.unparked_frame i c]

/-- Settles O53: each end is one update of the engine, on a part that is not held. -/
theorem phaseEventsMoveTheSlotOn : Obligations.PhaseEventsMoveTheSlotOn := by
  intro i s h hup sl c r
  have hbleed : exec (.bleedExpiry i) s = .next (s.bleedExpiry i) := State.live_of_not_held _ h
  have hrest : exec (.restExpiry i) s = .next (s.restExpiry i) := State.live_of_not_held _ h
  have hlead : exec (.endOfLead i) s = .next (s.endOfLead i) := State.live_of_not_held _ h
  have hdrain : exec (.drainCompletion i) s = .next (s.drainCompletion i) := State.live_of_not_held _ h
  refine ⟨fun hst hhold => ?_, fun hst => ?_, fun hst hsub => ?_, fun hst hnext => ?_, fun hst hnext parked hp => ?_,
    fun hst => ?_, fun hst => ?_, fun hst => ?_, fun hst => ?_⟩
  · rw [State.bleedExpiry_eq, if_pos hst] at hbleed
    have hrun := s.runsAt_resumeRun i false
    refine ⟨_, hbleed, ?_, hrun.portsKept, hrun.onlySlotAndTrips⟩
    rw [State.RunGoesOn, hhold]
    exact ⟨s.slot_resumeRun i false, s.channel_resumeRun hup false⟩
  · rw [State.restExpiry, if_pos hst] at hrest
    have hrun := s.runsAt_beginOnPhase i
    exact ⟨_, hrest, s.slot_beginOnPhase i, State.channel_beginOnPhase hup, hrun.portsKept, hrun.onlySlotAndTrips⟩
  · rw [State.endOfLead, if_pos ⟨hst, hsub⟩] at hlead
    refine ⟨_, hlead, ?_, fun j hj => State.slot_modSlot_ne _ _ hj, rfl⟩
    rw [State.slot_modSlot_self]
    rfl
  · have hdone : s.drainCompletion i =
        s.modSlot i fun sl => sl.enter (if c.drainNext = some .idle then .idle else .faulted) none := by
      rw [State.drainCompletion, if_pos hst]
      rcases hnext with e | e <;> rw [e] <;> rfl
    rw [hdone] at hdrain
    refine ⟨_, hdrain, ?_, fun j hj => State.slot_modSlot_ne _ _ hj, rfl⟩
    rw [State.slot_modSlot_self]
    rfl
  · have hdone : s.drainCompletion i = s.restore i := by
      rw [State.drainCompletion, if_pos hst, show (s.slot i).active.drainNext = _ from hnext]
    rw [hdone] at hdrain
    obtain ⟨hothers, htrips, hreleases, hframe⟩ := State.restore_reach hp
    exact ⟨_, hdrain, State.restores hup hp, hreleases, hothers, htrips, hframe⟩
  · rw [hbleed, State.bleedExpiry_eq, if_neg hst]
  · rw [hrest, State.restExpiry, if_neg hst]
  · rw [hdrain, State.drainCompletion, if_neg hst]
  · rw [hlead, State.endOfLead, if_neg (not_and_or.mpr hst)]

end Sys2Proof.Machine
end

section
/-!
PROOFS. The shelf inputs pause and resume every slot (O54).
-/

namespace Sys2Proof.Machine

/-! ## Acting at every slot -/

/-- What a quantity `P` of the part becomes when the slots of a list are acted on in turn: each slot changes it by what the
slot was before any was acted on. `R` is a relation that the acting keeps. -/
theorem State.foldl_project {α : Type} {f : State → Fin 8 → State} {R : State → State → Prop} {P : State → α}
    {g : Fin 8 → α → α} {s : State} (hw : ∀ u i, State.WorksAt i u (f u i))
    (htrans : ∀ s t u, R s t → R t u → R s u) (hR : ∀ u i, R u (f u i))
    (hP : ∀ u i, R s u → u.slot i = s.slot i → P (f u i) = g i (P u))
    {l : List (Fin 8)} (hl : l.Nodup) {u : State} (hu : R s u) (hslot : ∀ i ∈ l, u.slot i = s.slot i) :
    P (l.foldl f u) = l.foldl (fun a i => g i a) (P u) := by
  induction l generalizing u with
  | nil => rfl
  | cons k rest ih =>
    rw [List.nodup_cons] at hl
    rw [List.foldl_cons, List.foldl_cons, ← hP u k hu (hslot k List.mem_cons_self)]
    refine ih hl.2 (htrans _ _ _ hu (hR u k)) fun i hi => ?_
    have hik : i ≠ k := fun e => hl.1 (e ▸ hi)
    exact ((hw u k).1 i hik).trans (hslot i (List.mem_cons_of_mem k hi))

/-- A change that is asked for by none is not made. -/
theorem foldl_ite_of_none {α β : Type} {c : β → Prop} [DecidablePred c] {h : α → α} {l : List β}
    (hno : ∀ k ∈ l, ¬ c k) (a : α) : l.foldl (fun a k => if c k then h a else a) a = a := by
  induction l with
  | nil => rfl
  | cons k rest ih =>
    rw [List.foldl_cons, if_neg (hno k List.mem_cons_self)]
    exact ih fun j hj => hno j (List.mem_cons_of_mem k hj)

/-- A change that leaves no more to change is made once, however often it is asked for. -/
theorem foldl_ite_of_mem {α β : Type} {c : β → Prop} [DecidablePred c] {h : α → α} (hh : ∀ a, h (h a) = h a)
    {l : List β} {k : β} (hk : k ∈ l) (hc : c k) (a : α) :
    l.foldl (fun a k => if c k then h a else a) a = h a := by
  have hstands (l : List β) (a : α) : l.foldl (fun a k => if c k then h a else a) (h a) = h a := by
    induction l with
    | nil => rfl
    | cons j rest ih =>
      rw [List.foldl_cons, hh, ite_self]
      exact ih
  induction l generalizing a with
  | nil => cases hk
  | cons j rest ih =>
    rw [List.foldl_cons]
    by_cases hj : c j
    · rw [if_pos hj]
      exact hstands rest a
    · rw [if_neg hj]
      exact ih ((List.mem_cons.mp hk).resolve_left fun e => hj (e ▸ hc)) a

/-! ## A shelf hold comes into force -/

/-- A slot at which a shelf hold comes into force (R19, R129). -/
def Slot.pausedBy (sl : Slot) (env : Env) : Slot :=
  match sl.active.state with
  | .runOn => (sl.formSummary env .abort false).inState .paused none none
  | .runBleed | .runRest => sl.inState .paused none none
  | .manual => sl.inState .idle none none
  | .idle | .paused | .drain | .faulted => sl

theorem State.slot_pauseSlot (s : State) (i : Fin 8) : (s.pauseSlot i).slot i = (s.slot i).pausedBy (s.env i) := by
  unfold State.pauseSlot Slot.pausedBy
  cases h : (s.slot i).active.state with
  | runOn => rw [State.slot_modSlot_self, State.slot_abandonOnPhase]; rfl
  | runBleed | runRest => rw [State.slot_modSlot_self]; rfl
  | manual => rw [State.slot_clearRails, State.slot_modSlot_self]; rfl
  | idle | paused | drain | faulted => rfl

theorem State.pair_pauseSlot (s : State) (i : Fin 8) (q : Fin 4) :
    (s.pauseSlot i).pair q =
      if (s.slot i).active.state = .manual ∧ pairOf i = q then { s.pair q with rails := none } else s.pair q := by
  unfold State.pauseSlot
  cases h : (s.slot i).active.state with
  | manual =>
    rw [State.clearRails, State.pair_modPair, State.pair_modSlot, State.pair_modSlot]
    by_cases hq : q = pairOf i
    · simp [hq]
    · simp [hq, Ne.symm hq]
  | runOn | runBleed | runRest | idle | paused | drain | faulted => simp [State.abandonOnPhase]

/-- Only slots and rail requests may differ: what a shelf hold reaches as it comes into force. -/
def State.OnlySlotsAndRails (s t : State) : Prop :=
  (∀ q, (t.pair q).mode = (s.pair q).mode) ∧ t = { s with slots := t.slots, pairs := t.pairs }

theorem State.OnlySlotsAndRails.refl (s : State) : s.OnlySlotsAndRails s := ⟨fun _ => rfl, rfl⟩

theorem State.OnlySlotsAndRails.trans {s t u : State} (h : s.OnlySlotsAndRails t) (h' : t.OnlySlotsAndRails u) :
    s.OnlySlotsAndRails u := by
  obtain ⟨hmode, hframe⟩ := h
  obtain ⟨hmode', hframe'⟩ := h'
  refine ⟨fun q => (hmode' q).trans (hmode q), ?_⟩
  rw [hframe] at hframe'
  exact hframe'

theorem State.onlySlotsAndRails_pauseSlot (s : State) (i : Fin 8) : s.OnlySlotsAndRails (s.pauseSlot i) := by
  refine ⟨fun q => ?_, ?_⟩
  · rw [State.pair_pauseSlot]
    split <;> rfl
  · unfold State.pauseSlot
    split <;> rfl

theorem State.OnlySlotsAndRails.env {s u : State} (h : s.OnlySlotsAndRails u) {i : Fin 8} (hslot : u.slot i = s.slot i) :
    u.env i = s.env i := by
  obtain ⟨hmode, hframe⟩ := h
  have hm : u.mode i = s.mode i := hmode _
  have hrec : u.recordOf = s.recordOf := by
    rw [hframe]
    rfl
  have hchannel : u.channel = s.channel := by
    rw [hframe]
    rfl
  have hsdiv : u.sdiv = s.sdiv := by rw [hframe]
  simp only [State.env, State.activeRecord, State.inputCurrent, hm, hrec, hchannel, hsdiv, hslot]

/-- The rail requests of a pair at one of whose slots a manual drive has stopped. -/
def Pair.noRails (q : Pair) : Pair := { q with rails := none }

/-- What the coming of a shelf hold leaves at every slot and pair (R129). -/
theorem State.pauseAll (s : State) :
    (∀ i, (s.atEverySlot State.pauseSlot).slot i = (s.slot i).pausedBy (s.env i))
      ∧ (∀ q,
        ((s.slot (lowerOf q)).active.state = .manual ∨ (s.slot (upperOf q)).active.state = .manual →
          (s.atEverySlot State.pauseSlot).pair q = (s.pair q).noRails)
        ∧ (¬ ((s.slot (lowerOf q)).active.state = .manual ∨ (s.slot (upperOf q)).active.state = .manual) →
          (s.atEverySlot State.pauseSlot).pair q = s.pair q))
      ∧ s.OnlySlotsAndRails (s.atEverySlot State.pauseSlot) := by
  obtain ⟨hframe, hslot⟩ := State.atEverySlot_slot (R := State.OnlySlotsAndRails) State.worksAt_pauseSlot
    .refl (fun _ _ _ h h' => h.trans h') State.onlySlotsAndRails_pauseSlot s
  have hpair (q : Fin 4) : (s.atEverySlot State.pauseSlot).pair q =
      (List.finRange 8).foldl
        (fun a i => if (s.slot i).active.state = .manual ∧ pairOf i = q then a.noRails else a) (s.pair q) :=
    State.foldl_project (P := fun u => u.pair q) (R := State.OnlySlotsAndRails) State.worksAt_pauseSlot
      (fun _ _ _ h h' => h.trans h') State.onlySlotsAndRails_pauseSlot
      (fun u i _ hu => by rw [State.pair_pauseSlot, hu]; rfl) (List.nodup_finRange 8) (.refl s) fun _ _ => rfl
  refine ⟨fun i => ?_, fun q => ⟨fun hm => ?_, fun hm => ?_⟩, hframe⟩
  · obtain ⟨u, hu, hui, e⟩ := hslot i
    rw [e, State.slot_pauseSlot, hui, hu.env hui]
  · rw [hpair]
    rcases hm with hm | hm
    · refine foldl_ite_of_mem (h := Pair.noRails) (fun _ => rfl) (List.mem_finRange (lowerOf q)) ?_ _
      exact ⟨hm, pairOf_lowerOf q⟩
    · refine foldl_ite_of_mem (h := Pair.noRails) (fun _ => rfl) (List.mem_finRange (upperOf q)) ?_ _
      exact ⟨hm, pairOf_upperOf q⟩
  · rw [hpair]
    refine foldl_ite_of_none (fun i _ hi => hm ?_) _
    obtain ⟨hi, rfl⟩ := hi
    rcases slot_of_pair i with e | e
    · exact .inl (e ▸ hi)
    · exact .inr (e ▸ hi)

/-! ## The last shelf hold ends -/

/-- Only slots and trip counts may differ: what the end of a shelf hold reaches. -/
def State.OnlySlotsAndTrips (s t : State) : Prop :=
  (∀ c, t.channel c = { s.channel c with tripCount := (t.channel c).tripCount })
    ∧ t = { s with slots := t.slots, channels := t.channels }

theorem State.OnlySlotsAndTrips.refl (s : State) : s.OnlySlotsAndTrips s := ⟨fun _ => rfl, rfl⟩

theorem State.OnlySlotsAndTrips.trans {s t u : State} (h : s.OnlySlotsAndTrips t) (h' : t.OnlySlotsAndTrips u) :
    s.OnlySlotsAndTrips u := by
  obtain ⟨hc, hframe⟩ := h
  obtain ⟨hc', hframe'⟩ := h'
  refine ⟨fun c => ?_, ?_⟩
  · rw [hc' c, hc c]
  · rw [hframe] at hframe'
    exact hframe'

theorem State.onlySlotsAndTrips_resumeSlot (s : State) (i : Fin 8) : s.OnlySlotsAndTrips (s.resumeSlot i) := by
  rw [State.resumeSlot_eq]
  split
  · exact (s.runsAt_resumeRun i false).2
  · exact .refl s

theorem State.slot_resumeSlot (s : State) (i : Fin 8) :
    (s.resumeSlot i).slot i =
      if (s.slot i).active.state = .paused then s.goneOn i false (s.slot i) (s.slot i).active else s.slot i := by
  rw [State.resumeSlot_eq]
  split
  · exact s.slot_resumeRun i false
  · rfl

/-- A channel whose trip count has become 0 (R121). -/
def Channel.noTrips (c : Channel) : Channel := { c with tripCount := 0 }

/-- A channel at which the resumed run of slot `i` begins an on-phase starts its trip count anew (R121). -/
theorem State.channel_resumeSlot {s : State} {i : Fin 8} (h : s.upperPaired i = true → (s.slot i).active.state = .idle)
    (ch : Fin 8) :
    (s.resumeSlot i).channel ch =
      if (s.slot i).active.state = .paused ∧ s.goesOnAtOnce false (s.slot i).active ∧ s.governor ch = i then
        (s.channel ch).noTrips
      else s.channel ch := by
  rw [State.resumeSlot_eq]
  by_cases hst : (s.slot i).active.state = .paused
  · have hup : s.upperPaired i = false := by
      cases hu : s.upperPaired i with
      | false => rfl
      | true => exact absurd ((h hu).symm.trans hst) (by decide)
    rw [if_pos hst, (s.runsAt_resumeRun i false).2.1 ch, State.channel_resumeRun hup]
    by_cases hgo : s.goesOnAtOnce false (s.slot i).active ∧ s.governor ch = i
    · rw [if_pos hgo, if_pos ⟨hst, hgo⟩]
      rfl
    · rw [if_neg hgo, if_neg fun hx => hgo hx.2]
  · rw [if_neg hst, if_neg fun hx => hst hx.1]

section
variable {s u : State} (h : s.OnlySlotsAndTrips u)
include h

theorem State.OnlySlotsAndTrips.governor (ch : Fin 8) : u.governor ch = s.governor ch := by
  rw [h.2]
  rfl

theorem State.OnlySlotsAndTrips.upperPaired (i : Fin 8) : u.upperPaired i = s.upperPaired i := by
  rw [h.2]
  rfl

theorem State.OnlySlotsAndTrips.goesOnAtOnce (hold : Bool) (c : Context) :
    u.goesOnAtOnce hold c = s.goesOnAtOnce hold c := by
  rw [h.2]
  rfl

theorem State.OnlySlotsAndTrips.goneOn (i : Fin 8) (hold : Bool) (sl : Slot) (c : Context) :
    u.goneOn i hold sl c = s.goneOn i hold sl c := by
  rw [h.2]
  rfl

end

/-- A slot that stands aside is IDLE (R137). -/
theorem State.UpperStandsAside.idle {s : State} (h : s.UpperStandsAside) {i : Fin 8} (hu : s.upperPaired i = true) :
    (s.slot i).active.state = .idle := by
  obtain ⟨hupper, hpaired⟩ : isUpper i = true ∧ s.isPaired i = true := by simpa [State.upperPaired] using hu
  obtain ⟨-, hidle, -⟩ := h (pairOf i) (by simpa [State.isPaired, State.mode] using hpaired)
  rwa [eq_upperOf_of_upper hupper] at hidle

/-- What the end of the last shelf hold leaves at every slot and channel (R131). -/
theorem State.resumeAll {s : State} (h : s.UpperStandsAside) :
    (∀ i, (s.atEverySlot State.resumeSlot).slot i =
        if (s.slot i).active.state = .paused then s.goneOn i false (s.slot i) (s.slot i).active else s.slot i)
      ∧ (∀ ch, (s.atEverySlot State.resumeSlot).channel ch =
          { s.channel ch with
            tripCount :=
              if (s.slot (s.governor ch)).active.state = .paused
                  ∧ s.goesOnAtOnce false (s.slot (s.governor ch)).active then 0
              else (s.channel ch).tripCount })
      ∧ s.OnlySlotsAndTrips (s.atEverySlot State.resumeSlot) := by
  obtain ⟨hframe, hslot⟩ := State.atEverySlot_slot (R := State.OnlySlotsAndTrips) State.worksAt_resumeSlot
    .refl (fun _ _ _ h h' => h.trans h') State.onlySlotsAndTrips_resumeSlot s
  have haside (u : State) (i : Fin 8) (hu : s.OnlySlotsAndTrips u) (hslot : u.slot i = s.slot i) :
      u.upperPaired i = true → (u.slot i).active.state = .idle := by
    rw [hu.upperPaired, hslot]
    exact State.UpperStandsAside.idle h
  have hchannel (ch : Fin 8) : (s.atEverySlot State.resumeSlot).channel ch =
      (List.finRange 8).foldl
        (fun a i =>
          if (s.slot i).active.state = .paused ∧ s.goesOnAtOnce false (s.slot i).active ∧ s.governor ch = i then
            a.noTrips
          else a) (s.channel ch) :=
    State.foldl_project (P := fun u => u.channel ch) (R := State.OnlySlotsAndTrips) State.worksAt_resumeSlot
      (fun _ _ _ h h' => h.trans h') State.onlySlotsAndTrips_resumeSlot
      (fun u i hu hui => by
        rw [State.channel_resumeSlot (haside u i hu hui), hui]
        exact if_congr (by rw [hu.goesOnAtOnce, hu.governor]) rfl rfl) (List.nodup_finRange 8) (.refl s) fun _ _ => rfl
  refine ⟨fun i => ?_, fun ch => ?_, hframe⟩
  · obtain ⟨u, hu, hui, e⟩ := hslot i
    rw [e, State.slot_resumeSlot, hui, hu.goneOn]
  · rw [hchannel]
    by_cases hgo : (s.slot (s.governor ch)).active.state = .paused
        ∧ s.goesOnAtOnce false (s.slot (s.governor ch)).active
    · obtain ⟨hst, hgoes⟩ := hgo
      rw [if_pos ⟨hst, hgoes⟩]
      refine foldl_ite_of_mem (h := Channel.noTrips) (fun _ => rfl) (List.mem_finRange (s.governor ch)) ?_ _
      exact ⟨hst, hgoes, rfl⟩
    · rw [if_neg hgo]
      refine foldl_ite_of_none (fun i _ hi => hgo ?_) _
      obtain ⟨hst, hgoes, rfl⟩ := hi
      exact ⟨hst, hgoes⟩

/-! ## The two shelf inputs -/

/-- The live level of a shelf input, SUPPLY-LOW or HEAT. -/
def State.inputLevel (s : State) (supply : Bool) : Bool := if supply then s.supplyLow else s.heat

/-- The part with a shelf input's level changed, as taken and at its pin. -/
def State.withInput (s : State) (supply b : Bool) : State :=
  if supply then { s with supplyLow := b, pins := { s.pins with supplyLow := b } }
  else { s with heat := b, pins := { s.pins with heat := b } }

/-- The part with a shelf input newly asserted and its fault raised (R128). -/
def State.withAsserted (s : State) (supply : Bool) : State :=
  { s.withInput supply true with partFaults := raised s.partFaults (if supply then 0b00010 else 0b00001) }

/-- The part with the level changed at the pin alone. -/
def State.withPin (s : State) (supply b : Bool) : State :=
  if supply then { s with pins := { s.pins with supplyLow := b } } else { s with pins := { s.pins with heat := b } }

theorem State.withInput_self {s : State} {supply b : Bool} (h : s.inputLevel supply = b) :
    s.withInput supply b = s.withPin supply b := by
  subst h
  cases supply <;> rfl

theorem State.shelfHold_eq (s : State) (supply : Bool) :
    s.shelfHold = (s.inputLevel supply || s.inputLevel !supply) := by
  cases supply
  · rfl
  · exact Bool.or_comm ..

/-- An input's assertion, with the pin's level changed first (R128). -/
theorem exec_inputAsserted {s : State} (h : s.held = false) (supply : Bool) :
    exec (if supply then .supplyLowAsserted else .heatAsserted) s =
      .next (if s.inputLevel supply then s.withInput supply true
        else if s.inputLevel !supply then s.withAsserted supply
        else (s.withAsserted supply).atEverySlot State.pauseSlot) := by
  have hexec : exec (if supply then .supplyLowAsserted else .heatAsserted) s =
      .next (if s.inputLevel supply then s.withPin supply true
        else if s.shelfHold then s.withAsserted supply
        else (s.withAsserted supply).atEverySlot State.pauseSlot) := by
    cases supply with
    | true =>
      exact State.live_of_not_held (s := s.withPin true true)
        (fun s => s.assertInput .supply s.supplyLow fun s => { s with supplyLow := true }) h
    | false =>
      exact State.live_of_not_held (s := s.withPin false true)
        (fun s => s.assertInput .heat s.heat fun s => { s with heat := true }) h
  rw [hexec, s.shelfHold_eq supply]
  cases hlevel : s.inputLevel supply with
  | true => rw [if_pos rfl, if_pos rfl, State.withInput_self hlevel]
  | false => rfl

/-- An input's release (R131). -/
theorem exec_inputReleased {s : State} (h : s.held = false) (supply : Bool) :
    exec (if supply then .supplyLowReleased else .heatReleased) s =
      .next (if s.inputLevel supply = true ∧ s.inputLevel (!supply) = false then
          (s.withInput supply false).atEverySlot State.resumeSlot
        else s.withInput supply false) := by
  have hexec : exec (if supply then .supplyLowReleased else .heatReleased) s =
      .next (if s.shelfHold && !(s.withInput supply false).shelfHold then
          (s.withInput supply false).atEverySlot State.resumeSlot
        else s.withInput supply false) := by
    cases supply with
    | true =>
      exact State.live_of_not_held (s := s.withPin true false)
        (fun s => s.releaseInput fun s => { s with supplyLow := false }) h
    | false =>
      exact State.live_of_not_held (s := s.withPin false false)
        (fun s => s.releaseInput fun s => { s with heat := false }) h
  have hlevel : (s.withInput supply false).inputLevel supply = false := by cases supply <;> rfl
  have hother : (s.withInput supply false).inputLevel (!supply) = s.inputLevel !supply := by cases supply <;> rfl
  rw [hexec, s.shelfHold_eq supply, (s.withInput supply false).shelfHold_eq supply, hlevel, hother]
  cases s.inputLevel supply <;> cases s.inputLevel !supply <;> rfl

/-- Settles O54: the two inputs are alike; the first asserted pauses every slot, the last released resumes every slot. -/
theorem shelfInputsPauseAndResumeEverySlot : Obligations.ShelfInputsPauseAndResumeEverySlot := by
  intro supply s h haside asserts releases level other at_ noted was manualIn
  have hasserts := exec_inputAsserted h supply
  have hreleases := exec_inputReleased h supply
  have hlevel : s.inputLevel supply = level := by cases supply <;> rfl
  have hother : (s.inputLevel !supply) = other := by cases supply <;> rfl
  have hat (b : Bool) : s.withInput supply b = at_ b := rfl
  have hnoted : s.withAsserted supply = noted := rfl
  rw [hlevel, hother, hat, hnoted] at hasserts
  rw [hlevel, hother, hat] at hreleases
  refine ⟨fun hl => ?_, fun hl ho => ?_, fun hl ho => ?_, fun hlo => ?_, fun hl ho => ?_⟩
  · rw [hasserts, hl]
    rfl
  · rw [hasserts, hl, ho]
    rfl
  · rw [if_neg (show ¬ level = true from Bool.eq_false_iff.mp hl),
      if_neg (show ¬ other = true from Bool.eq_false_iff.mp ho)] at hasserts
    obtain ⟨hslot, hpair, hframe⟩ := noted.pauseAll
    have hnotedSlot (i : Fin 8) : noted.slot i = s.slot i := by cases supply <;> rfl
    have hnotedEnv (i : Fin 8) : noted.env i = s.env i := by cases supply <;> rfl
    have hnotedPair (q : Fin 4) : noted.pair q = s.pair q := by cases supply <;> rfl
    refine ⟨_, hasserts, fun i => ?_, fun q => ?_, hframe.2⟩
    · have hi : _ = (s.slot i).pausedBy (s.env i) := (hslot i).trans (by rw [hnotedSlot, hnotedEnv])
      refine ⟨fun e => ?_, fun e => ?_, fun e => ?_, fun e => ?_⟩
      · rw [hi, Slot.pausedBy, show (s.slot i).active.state = _ from e]
      · rw [hi, Slot.pausedBy]
        rcases e with e | e <;> rw [show (s.slot i).active.state = _ from e]
      · rw [hi, Slot.pausedBy, show (s.slot i).active.state = _ from e]
      · rw [hi, Slot.pausedBy]
        rcases e with e | e | e | e <;> rw [show (s.slot i).active.state = _ from e]
    · have hq := hpair q
      rw [hnotedSlot, hnotedSlot, hnotedPair] at hq
      exact hq
  · have hlast : ¬ (level = true ∧ other = false) := by
      rintro ⟨hl, ho⟩
      rcases hlo with e | e
      · exact Bool.noConfusion (hl.symm.trans e)
      · exact Bool.noConfusion (ho.symm.trans e)
    rw [hreleases, if_neg hlast]
  · have hlast : level = true ∧ other = false := ⟨hl, ho⟩
    rw [if_pos hlast] at hreleases
    have haside' : (at_ false).UpperStandsAside := by cases supply <;> exact haside
    have hatSlot (i : Fin 8) : (at_ false).slot i = s.slot i := by cases supply <;> rfl
    have hatGoneOn (i : Fin 8) : (at_ false).goneOn i = s.goneOn i := by cases supply <;> rfl
    have hatChannel (ch : Fin 8) : (at_ false).channel ch = s.channel ch := by cases supply <;> rfl
    have hatGovernor (ch : Fin 8) : (at_ false).governor ch = s.governor ch := by cases supply <;> rfl
    have hatRecord : (at_ false).recordOf = s.recordOf := by cases supply <;> rfl
    obtain ⟨hslot, hchannel, hframe⟩ := State.resumeAll haside'
    refine ⟨_, hreleases, fun i => ?_, fun ch => ?_, hframe.2⟩
    · have hi := hslot i
      rw [hatSlot, hatGoneOn] at hi
      exact ⟨fun e => hi.trans (if_pos e), fun e => hi.trans (if_neg e)⟩
    · have hch := hchannel ch
      rw [hatChannel, hatGovernor, hatSlot] at hch
      simp only [State.goesOnAtOnce, hatRecord] at hch ⊢
      exact hch

end Sys2Proof.Machine
end

section
/-!
PROOFS. Calibration (O17): the arithmetic of R29, and the present currents that a sample event leaves.
-/

namespace Sys2Proof.Machine

/-! ## The arithmetic of R29 -/

/-- The trimmed code c of R29. -/
def trimmedCode (trim : Int) (r : Nat) : Nat := (clampInt 0 4095 ((r : Int) + trim)).toNat

theorem calibrate_eq (trim : Int) (gain r : Nat) : calibrate trim gain r = (trimmedCode trim r * gain + 128) / 256 := rfl

theorem trimmedCode_le (trim : Int) (r : Nat) : trimmedCode trim r ≤ 4095 := by
  unfold trimmedCode clampInt
  omega

/-- The clamp of R29 as it words it. -/
theorem trimmedCode_eq {trim : Int} {r c : Nat}
    (h : (c : Int) = if (r : Int) + trim < 0 then 0 else if (r : Int) + trim > 4095 then 4095 else (r : Int) + trim) :
    trimmedCode trim r = c := by
  unfold trimmedCode clampInt
  split_ifs at h <;> omega

/-- The largest current is that of code 4095 at gain 1023. -/
theorem calibrate_le (trim : Int) {gain : Nat} (r : Nat) (hg : gain ≤ 1023) : calibrate trim gain r ≤ 16364 := by
  have h : trimmedCode trim r * gain ≤ 4095 * 1023 := Nat.mul_le_mul (trimmedCode_le trim r) hg
  rw [calibrate_eq]
  omega

/-! ## What a sample leaves of the channels -/

theorem State.runsAt_countedSample (s : State) (i : Fin 8) : State.RunsAt i s (s.countedSample i) := by
  cases h : (s.checkerOut i).2 with
  | none =>
    rw [State.countedSample_of_pass h]
    exact s.runsAt_modSlot ..
  | some cause =>
    rw [State.countedSample_of_fail h]
    exact (s.runsAt_modSlot ..).trans (State.runsAt_applyOnFail ..)

/-- A trip is the run's own work, and the rail requests become absent (R122, R143). -/
theorem State.trip_reach (s : State) (i : Fin 8) (t : TripCheck) :
    ∃ u, State.RunsAt i s u ∧ s.trip i t = u.clearRails i := by
  have hnoted : State.RunsAt i s ((s.recordTrip i t).clearTrips i) :=
    (s.runsAt_modSlot ..).trans (State.runsAt_clearTrips ..)
  refine ⟨_, ?_, rfl⟩
  split
  · exact (hnoted.trans (State.runsAt_abandonOnPhase ..)).trans (State.runsAt_enterDrain ..)
  · exact hnoted.trans (State.runsAt_enterDrain ..)

/-- So far reaches what a slot does with a sample. -/
theorem State.sampleAtSlot_reach (s : State) (i : Fin 8) :
    ∃ u, State.RunsAt i s u ∧ (s.sampleAtSlot i = u ∨ s.sampleAtSlot i = u.clearRails i) := by
  have hcount := s.runsAt_countTrips i (s.tripChecks i)
  by_cases hs : (s.slot i).active.state = .runOn ∨ (s.slot i).active.state = .manual
  · rw [State.sampleAtSlot_of_fed hs]
    dsimp only
    generalize s.countTrips (s.tripChecks i) = v at hcount
    split
    next t _ =>
      obtain ⟨u, hu, e⟩ := v.trip_reach i t
      exact ⟨u, hcount.trans hu, .inr e⟩
    split
    · exact ⟨_, hcount.trans (v.runsAt_modSlot ..), .inl rfl⟩
    split
    · exact ⟨v, hcount, .inl rfl⟩
    · exact ⟨_, hcount.trans (v.runsAt_countedSample i), .inl rfl⟩
  · exact ⟨s, .refl i s, .inl (State.sampleAtSlot_of_unfed (fun e => hs (.inl e)) fun e => hs (.inr e))⟩

/-- The present currents are those of the arrival (R30). -/
theorem State.present_sampleAtSlot (s : State) (i c : Fin 8) :
    ((s.sampleAtSlot i).channel c).present = (s.channel c).present := by
  obtain ⟨u, hu, e | e⟩ := s.sampleAtSlot_reach i <;> rw [e]
  · exact hu.present c
  · exact hu.present c

/-- Settles O17: the channels keep what their arrivals gave them, and R29's formula is `calibrate`. -/
theorem eachCodeIsCalibratedToTheNearestMilliamp : Obligations.EachCodeIsCalibratedToTheNearestMilliamp := by
  refine ⟨fun ch code s h hp => ?_, fun pr x y s h hp => ?_, fun trim gain r c hc => ?_, by decide, fun r hr => ?_⟩
  · refine ⟨_, sampleReaches_exec (.inl ⟨code, rfl, hp, rfl⟩) h, ?_⟩
    rw [State.present_sampleAtSlot, State.channel_modChannel_self]
    rfl
  · have hne := lowerOf_ne_upperOf pr pr
    refine ⟨_, sampleReaches_exec (.inr ⟨pr, x, y, rfl, rfl, hp, rfl⟩) h, ?_, ?_⟩
    · rw [State.present_sampleAtSlot, State.channel_modChannel_ne _ _ hne, State.channel_modChannel_self]
      rfl
    · rw [State.present_sampleAtSlot, State.channel_modChannel_self, State.channel_modChannel_ne _ _ hne.symm]
      rfl
  · have e : calibrate trim gain r = (c * gain + 128) / 256 := by rw [calibrate_eq, trimmedCode_eq hc]
    refine ⟨e, by omega, by omega, fun h0 => ?_, calibrate_le trim r⟩
    have hprod : c * gain = 0 := Nat.mul_eq_zero.mpr h0
    rw [e, hprod]
  · have e : trimmedCode 0 r = r := trimmedCode_eq (by split_ifs <;> omega)
    rw [calibrate_eq, e]
    omega

end Sys2Proof.Machine
end

section
/-!
PROOFS. The part-wide commands of the sense chain: SET-SAMPLING (O47), TRIM-SET, TRIM-PROGRAM and its completion (O48).
-/

namespace Sys2Proof.Machine

/-! ## The conditions of R38 -/

theorem State.atRest_iff (s : State) :
    s.atRest = true ↔ ∀ i, (s.slot i).active.state = .idle ∨ (s.slot i).active.state = .faulted := by
  simp [State.atRest, State.slot, Fin.forall_iff]

theorem State.trimBusy_iff (s : State) : s.trimBusy = true ↔ s.programming ≠ none := Option.isSome_iff_ne_none

section
variable {s : State} {p : Party} (act : State → State × Reply)

theorem State.partWide_notPermitted (h : ¬ ∀ i, (s.slot i).holder = p) :
    s.partWide p act = (s, Reply.bare .notPermitted) := by
  rw [← State.holdsAll_iff, Bool.not_eq_true] at h
  simp [State.partWide, h, State.refuse]

theorem State.partWide_busy (h : ∀ i, (s.slot i).holder = p)
    (hb : s.programming ≠ none ∨ ¬ ∀ i, (s.slot i).active.state = .idle ∨ (s.slot i).active.state = .faulted) :
    s.partWide p act = (s, Reply.bare .busy) := by
  rw [← State.holdsAll_iff] at h
  rw [← State.trimBusy_iff, ← State.atRest_iff, Bool.not_eq_true] at hb
  rcases hb with hb | hb <;> simp [State.partWide, h, hb, State.refuse]

theorem State.partWide_taken (h : ∀ i, (s.slot i).holder = p) (hp : s.programming = none)
    (hr : ∀ i, (s.slot i).active.state = .idle ∨ (s.slot i).active.state = .faulted) : s.partWide p act = act s := by
  rw [← State.holdsAll_iff] at h
  rw [← State.atRest_iff] at hr
  simp [State.partWide, h, State.trimBusy, hp, hr]

end

/-! ## SET-SAMPLING -/

theorem State.samplesDue_ne_nil (s : State) (ch : Fin 8) :
    s.samplesDue ch ≠ [] ↔ 4 * (s.sdiv + 1) ≤ (s.channel ch).conversion ∧ s.upperPaired ch = false := by
  unfold State.samplesDue State.samplePeriod State.upperPaired
  by_cases hp : 4 * (s.sdiv + 1) ≤ (s.channel ch).conversion
  · cases s.isPaired ch <;> cases isUpper ch <;> simp [hp]
  · simp [hp]

@[simp] theorem State.channel_restartConverters (s : State) (c : Fin 8) :
    s.restartConverters.channel c = { s.channel c with conversion := 0 } := by
  simp [State.restartConverters, State.channel, Channel.restart]

theorem sdivStored_eq (op : Word) :
    sdivStored op = if op.toNat < 24 then 24 else if 1023 < op.toNat then 1023 else op.toNat := by
  unfold sdivStored clamp
  split_ifs <;> omega

/-- The clamped divider is the carried one within the range. -/
theorem sdivStored_eq_self_iff (op : Word) : sdivStored op = op.toNat ↔ 24 ≤ op.toNat ∧ op.toNat ≤ 1023 := by
  unfold sdivStored clamp
  omega

theorem cmdSetSampling_part (p : Party) (arg : Nibble) (op : Word) (s : State) :
    cmdSetSampling p 15 arg op s =
      s.partWide p fun s =>
        (State.restartConverters { s with sdiv := sdivStored op }).reply
          (if sdivStored op = op.toNat then .ok else .clamped) := rfl

/-- Settles O47: past R38's conditions SET-SAMPLING is the clamped divider and the restart of every converter. -/
theorem setSamplingSetsTheDivider : Obligations.SetSamplingSetsTheDivider := by
  refine ⟨State.samplesDue_ne_nil, ?_⟩
  intro p target arg op s h n row all atRest
  refine ⟨fun htarget => ?_, ?_, ?_, ?_⟩
  · have hpart : isPart target = false := Bool.eq_false_iff.mpr (mt (isPart_iff target).mp htarget)
    exact State.command_refuses h .setSampling arg (by simp [cmdSetSampling, hpart, State.refuse])
  · rintro rfl hall
    exact State.command_refuses h .setSampling arg (by rw [cmdSetSampling_part, State.partWide_notPermitted _ hall])
  · rintro rfl hall hbusy
    exact State.command_refuses h .setSampling arg (by rw [cmdSetSampling_part, State.partWide_busy _ hall hbusy])
  · rintro rfl hall hnone hrest
    obtain ⟨t, hexec, hans, ht⟩ : ∃ t, exec (.setSampling p 15 arg op) s = .next t
        ∧ s.Answered p .setSampling 15 (if sdivStored op = op.toNat then .ok else .clamped) [] t
        ∧ (State.restartConverters { s with sdiv := sdivStored op }).OnlyPorts t :=
      State.command_replies h .setSampling
        (by rw [cmdSetSampling_part, State.partWide_taken _ hall hnone hrest]; rfl) ⟨rfl, rfl, rfl⟩
    refine ⟨t, hexec, ?_, ?_, rfl, fun c => ?_, ?_⟩
    · simp only [sdivStored_eq_self_iff] at hans
      exact hans
    · rw [← sdivStored_eq, ht]
      rfl
    · rw [State.OnlyPorts.channel ht, State.channel_restartConverters]
      rfl
    · rw [ht]
      rfl

/-! ## TRIM-SET -/

theorem trimStored_eq (op : Word) :
    trimStored op = if trimCarried op < -16 then -16 else if 15 < trimCarried op then 15 else trimCarried op := by
  unfold trimStored clampInt
  split_ifs <;> omega

theorem gainStored_eq (op : Word) : gainStored op = if 1023 < gainCarried op then 1023 else gainCarried op := by
  unfold gainStored clamp
  split_ifs <;> omega

/-- TRIM-SET clamps neither value within the ranges. -/
theorem trimSet_unclamped_iff (op : Word) :
    (trimStored op = trimCarried op ∧ gainStored op = gainCarried op) ↔
      -16 ≤ trimCarried op ∧ trimCarried op ≤ 15 ∧ gainCarried op ≤ 1023 := by
  unfold trimStored gainStored clamp clampInt
  omega

theorem cmdTrimSet_slot (p : Party) (ch : Fin 8) (arg : Nibble) (op : Word) (s : State) :
    cmdTrimSet p (slotField ch) arg op s =
      s.partWide p fun s =>
        (s.modChannel ch fun c => { c with trim := trimStored op, gain := gainStored op }).reply
          (if trimStored op = trimCarried op ∧ gainStored op = gainCarried op then .ok else .clamped) := by
  rw [cmdTrimSet, slotOf_slotField]

theorem trimSet_completes {p : Party} {ch : Fin 8} {arg : Nibble} {op : Word} {s : State} (h : s.held = false)
    (hall : ∀ i, (s.slot i).holder = p) (hnone : s.programming = none)
    (hrest : ∀ i, (s.slot i).active.state = .idle ∨ (s.slot i).active.state = .faulted) :
    ∃ t, exec (.trimSet p (slotField ch) arg op) s = .next t
      ∧ s.Answered p .trimSet (slotField ch)
          (if -16 ≤ trimCarried op ∧ trimCarried op ≤ 15 ∧ gainCarried op ≤ 1023 then .ok else .clamped) [] t
      ∧ (s.modChannel ch fun c => { c with trim := trimStored op, gain := gainStored op }).OnlyPorts t := by
  simp only [← trimSet_unclamped_iff]
  exact State.command_replies h .trimSet
    (by rw [cmdTrimSet_slot, State.partWide_taken _ hall hnone hrest]; rfl) ⟨rfl, rfl, rfl⟩

/-! ## TRIM-PROGRAM -/

theorem cmdTrimProgram_part (p : Party) (arg : Nibble) (s : State) :
    cmdTrimProgram p 15 arg s =
      s.partWide p fun s => if 15 ≤ s.programCount then s.refuse .exhausted else s.beginProgramming.reply .ok := rfl

/-- A programming's completion: the store takes what was captured (R35). -/
theorem State.channel_completeProgramming {s : State} {pg : Programming} (h : s.programming = some pg) (c : Fin 8) :
    s.completeProgramming.channel c =
      { s.channel c with storedTrim := (pg.captured[c]).1, storedGain := (pg.captured[c]).2 } := by
  simp [State.completeProgramming, h, State.channel]

theorem State.completeProgramming_frame {s : State} {pg : Programming} (h : s.programming = some pg) :
    s.completeProgramming = { s with programming := none, channels := s.completeProgramming.channels } := by
  simp [State.completeProgramming, h]

/-- Settles O48: past R38's conditions each command is its change of the working values or of the programming. -/
theorem trimsAreSetProgrammedAndStored : Obligations.TrimsAreSetProgrammedAndStored := by
  intro p arg s h all atRest
  refine ⟨fun ch op => ⟨fun hall => ?_, fun hall hbusy => ?_, fun hall hnone hrest => ?_⟩,
    ⟨fun hall => ?_, fun hall hbusy => ?_, fun hall hnone hrest hcount => ?_, fun hall hnone hrest hcount => ?_⟩,
    fun pg hpg => ?_⟩
  · exact State.command_refuses h .trimSet arg (by rw [cmdTrimSet_slot, State.partWide_notPermitted _ hall])
  · exact State.command_refuses h .trimSet arg (by rw [cmdTrimSet_slot, State.partWide_busy _ hall hbusy])
  · obtain ⟨t, hexec, hans, ht⟩ := trimSet_completes (ch := ch) (arg := arg) (op := op) h hall hnone hrest
    refine ⟨t, hexec, hans, ?_, fun c hc => ?_, ?_⟩
    · rw [State.OnlyPorts.channel ht, State.channel_modChannel_self, trimStored_eq, gainStored_eq]
      rfl
    · rw [State.OnlyPorts.channel ht, State.channel_modChannel_ne _ _ hc]
    · rw [ht]
      rfl
  · exact State.command_refuses h .trimProgram arg (by rw [cmdTrimProgram_part, State.partWide_notPermitted _ hall])
  · exact State.command_refuses h .trimProgram arg (by rw [cmdTrimProgram_part, State.partWide_busy _ hall hbusy])
  · exact State.command_refuses h .trimProgram arg
      (by rw [cmdTrimProgram_part, State.partWide_taken _ hall hnone hrest, if_pos hcount]; rfl)
  · obtain ⟨t, hexec, hans, ht⟩ : ∃ t, exec (.trimProgram p 15 arg) s = .next t
        ∧ s.Answered p .trimProgram 15 .ok [] t ∧ s.beginProgramming.OnlyPorts t :=
      State.command_replies h .trimProgram
        (by rw [cmdTrimProgram_part, State.partWide_taken _ hall hnone hrest, if_neg (Nat.not_le.mpr hcount)]; rfl)
        ⟨rfl, rfl, rfl⟩
    refine ⟨t, { elapsed := 0, captured := Vector.ofFn fun i => ((s.channel i).trim, (s.channel i).gain) }, hexec, hans,
      ?_, ?_, rfl, fun c => by simp, ?_⟩
    · rw [ht]
      rfl
    · rw [ht]
      rfl
    · rw [ht]
      rfl
  · refine ⟨_, State.live_of_not_held (fun s => s.completeProgramming) h, ?_,
      State.channel_completeProgramming hpg, State.completeProgramming_frame hpg⟩
    rw [State.completeProgramming_frame hpg]

end Sys2Proof.Machine
end

section
/-!
PROOFS. What every step keeps in range (O11): the sense chain's values and settings, and the counters of every context. An
operation keeps them where what it writes lies in range, so each is taken through the updates it is made of.
-/

namespace Sys2Proof.Machine

/-! ## The ranges of a slot and of the part -/

/-- The counters of a slot's contexts, active and parked, lie in their ranges (1.1). -/
def Slot.CountersInRange (sl : Slot) : Prop :=
  sl.active.CountersInRange ∧ ∀ c, sl.parked = some c → c.CountersInRange

/-- The sense chain's values, the settings and the counters lie in their ranges. -/
structure State.Ranged (s : State) : Prop where
  sense : s.SenseInRange
  slot (i : Fin 8) : (s.slot i).CountersInRange

theorem State.ranged_iff (s : State) : s.Ranged ↔ s.SenseInRange ∧ s.CountersInRange :=
  ⟨fun h => ⟨h.sense, h.slot⟩, fun h => ⟨h.1, h.2⟩⟩

/-- D, k and the parked context are all that the counters' ranges depend on. -/
theorem Slot.CountersInRange.congr {sl sl' : Slot} (h : sl.CountersInRange) (hd : sl'.active.d = sl.active.d)
    (hk : sl'.active.k = sl.active.k) (hp : sl'.parked = sl.parked) : sl'.CountersInRange := by
  unfold Slot.CountersInRange Context.CountersInRange
  rw [hd, hk, hp]
  exact h

theorem Slot.CountersInRange.congr_active {sl sl' : Slot} (h : sl.CountersInRange) (ha : sl'.active = sl.active)
    (hp : sl'.parked = sl.parked) : sl'.CountersInRange :=
  h.congr (by rw [ha]) (by rw [ha]) hp

/-- A new active context, its counters in range, beside the parked one. -/
theorem Slot.CountersInRange.withActive {sl : Slot} {c : Context} (h : sl.CountersInRange) (hd : c.d ≤ 65535)
    (hk : c.k ≤ 4294967295) : ({ sl with active := c } : Slot).CountersInRange := ⟨⟨hd, hk⟩, h.2⟩

theorem Context.countersInRange_reset : Context.reset.CountersInRange := ⟨Nat.zero_le _, Nat.zero_le _⟩

theorem freshContext_countersInRange (r : ProfileRecord) (c : Context) : (freshContext r c).CountersInRange := by
  unfold freshContext
  split <;> exact Context.countersInRange_reset

theorem Slot.CountersInRange.formSummary {sl : Slot} (h : sl.CountersInRange) (env : Env) (v : Verdict) (last : Bool) :
    (sl.formSummary env v last).CountersInRange :=
  h.congr (by rw [Slot.formSummary_active]; rfl) (by rw [Slot.formSummary_active]; rfl) (by simp)

theorem Slot.CountersInRange.failed {sl : Slot} (h : sl.CountersInRange) (r : ProfileRecord) (current : Nat)
    (cause : Cause) : (sl.failed r current cause).CountersInRange :=
  h.congr (by rw [Slot.failed_active]) (by rw [Slot.failed_active]) (by simp)

theorem Slot.CountersInRange.closeWalk {sl : Slot} (h : sl.CountersInRange) (env : Env) :
    (sl.closeWalk env).CountersInRange := by
  rw [Slot.closeWalk_eq]
  split
  · exact h
  · exact h.failed ..

/-- k is held at its end (R8). -/
theorem State.countedSlot_inRange {s : State} {i : Fin 8} (h : (s.slot i).CountersInRange) :
    (s.countedSlot i).CountersInRange := by
  obtain ⟨-, -, hd, hp⟩ := s.countedSlot_kept i
  refine ⟨⟨?_, Nat.min_le_right ..⟩, ?_⟩
  · rw [hd]
    exact h.1.1
  · rw [hp]
    exact h.2

theorem Channel.InRange.arrive {c : Channel} (h : c.InRange) (code : SenseCode) : (c.arrive code).InRange :=
  ⟨calibrate_le _ _ h.2.1.2.2, h.2⟩

/-! ## The updates of the part -/

section
variable {s t : State} (h : s.Ranged)
include h

theorem State.Ranged.onlyWires (ht : s.OnlyWires t) : t.Ranged := by
  rw [ht]
  exact ⟨h.sense, h.slot⟩

theorem State.Ranged.modSlot {i : Fin 8} {f : Slot → Slot} (hf : (f (s.slot i)).CountersInRange) :
    (s.modSlot i f).Ranged := by
  refine ⟨h.sense, fun j => ?_⟩
  rw [State.slot_modSlot]
  split
  · exact hf
  · exact h.slot j

theorem State.Ranged.modChannel {i : Fin 8} {f : Channel → Channel} (hf : (f (s.channel i)).InRange) :
    (s.modChannel i f).Ranged := by
  obtain ⟨hchannels, hrest⟩ := h.sense
  refine ⟨⟨fun c => ?_, hrest⟩, h.slot⟩
  rw [State.channel_modChannel]
  split
  · exact hf
  · exact hchannels c

theorem State.Ranged.channel (c : Fin 8) : (s.channel c).InRange := h.sense.1 c

theorem State.Ranged.modPair (q : Fin 4) (f : Pair → Pair) : (s.modPair q f).Ranged := ⟨h.sense, h.slot⟩

theorem State.Ranged.clearRails (i : Fin 8) : (s.clearRails i).Ranged := h.modPair ..

theorem State.Ranged.reply (st : Status) : (s.reply st).1.Ranged := h

theorem State.Ranged.modProfile (q : Fin 16) (f : Profile → Profile) : (s.modProfile q f).Ranged := ⟨h.sense, h.slot⟩

theorem State.Ranged.clearTrips (i : Fin 8) : (s.clearTrips i).Ranged := by
  unfold State.clearTrips
  split
  · have h' : (s.modChannel (lowerOf (pairOf i)) fun c => { c with tripCount := 0 }).Ranged :=
      h.modChannel (h.channel _)
    exact h'.modChannel (h'.channel _)
  · exact h.modChannel (h.channel i)

theorem State.Ranged.restartHold (p : Party) (i : Fin 8) : (s.restartHold p i).Ranged := by
  unfold State.restartHold
  split
  · exact h.modSlot (h.slot _)
  · exact h

theorem State.Ranged.setHolder (i : Fin 8) (p : Party) : (s.setHolder i p).Ranged := by
  have hsame := s.sameContexts_setHolder i p
  refine ⟨?_, fun j => (h.slot j).congr_active (hsame.active j) (hsame.parked j)⟩
  rw [s.setHolder_frame i p]
  exact h.sense

theorem State.Ranged.releaseBinding (i : Fin 8) : (s.releaseBinding i).Ranged := by
  unfold State.releaseBinding
  split
  · exact h
  · exact (h.modProfile _ _).modSlot (h.slot i)

theorem State.Ranged.bindTo (i : Fin 8) (p : Fin 16) : (s.bindTo i p).Ranged := by
  have h' := (h.releaseBinding i).modProfile p fun pr => { pr with useCount := pr.useCount + 1 }
  unfold State.bindTo
  split
  · exact h
  · exact h'.modSlot (h'.slot i)

/-! ## The slot engine -/

theorem State.Ranged.beginOnPhase (i : Fin 8) : (s.beginOnPhase i).Ranged := by
  refine State.Ranged.clearTrips (h.modSlot ?_) i
  rw [Slot.beginOnPhase_eq]
  exact ⟨⟨(h.slot i).1.1, Nat.zero_le _⟩, (h.slot i).2⟩

theorem State.Ranged.enterRest (i : Fin 8) : (s.enterRest i).Ranged := by
  unfold State.enterRest
  dsimp only
  split
  · exact h.beginOnPhase i
  · exact h.modSlot (h.slot i)

theorem State.Ranged.resumeRun (i : Fin 8) (hold : Bool) : (s.resumeRun i hold).Ranged := by
  unfold State.resumeRun
  split
  · exact h.modSlot (h.slot i)
  split
  · exact h.modSlot (h.slot i)
  · exact h.enterRest i

theorem State.Ranged.enterOffPhase (i : Fin 8) : (s.enterOffPhase i).Ranged := by
  rw [State.enterOffPhase_eq]
  split
  · exact h.modSlot (h.slot i)
  · exact h.resumeRun i false

theorem State.Ranged.abandonOnPhase (i : Fin 8) (v : Verdict) : (s.abandonOnPhase i v).Ranged :=
  h.modSlot ((h.slot i).formSummary ..)

/-- D is held at its end (R10). -/
theorem State.Ranged.countOnPhase (i : Fin 8) (v : Verdict) : (s.countOnPhase i v).Ranged := by
  rw [State.countOnPhase_eq]
  refine State.Ranged.enterOffPhase (h.modSlot ?_) i
  exact ((h.slot i).formSummary ..).withActive (Nat.min_le_right ..) ((h.slot i).formSummary ..).1.2

theorem State.Ranged.enterDrain (i : Fin 8) (x : DrainNext) : (s.enterDrain i x).Ranged := by
  unfold State.enterDrain
  exact h.modSlot (h.slot i)

theorem State.Ranged.pauseSlot (i : Fin 8) : (s.pauseSlot i).Ranged := by
  unfold State.pauseSlot
  split
  · exact (h.abandonOnPhase i .abort).modSlot ((h.abandonOnPhase i .abort).slot i)
  · exact h.modSlot (h.slot i)
  · exact h.modSlot (h.slot i)
  · exact State.Ranged.modPair (h.modSlot (h.slot i)) ..
  all_goals exact h

theorem State.Ranged.resumeSlot (i : Fin 8) : (s.resumeSlot i).Ranged := by
  rw [State.resumeSlot_eq]
  split
  · exact h.resumeRun i false
  · exact h

theorem State.Ranged.settleRestored (i : Fin 8) : (s.settleRestored i).Ranged := by
  rw [State.settleRestored_eq]
  split
  · exact h.modSlot (h.slot i)
  iterate 4 exact h.resumeRun i _
  all_goals exact h.modSlot (h.slot i)

theorem State.Ranged.restore (i : Fin 8) : (s.restore i).Ranged := by
  have h' := h.releaseBinding i
  unfold State.restore
  dsimp only
  split
  · exact h'.modSlot ⟨Context.countersInRange_reset, (h'.slot i).2⟩
  next c hc => exact State.Ranged.settleRestored (h'.modSlot ⟨(h'.slot i).2 c hc, fun _ hn => by cases hn⟩) i

theorem State.Ranged.onTimeExpiry (i : Fin 8) : (s.onTimeExpiry i).Ranged := by
  unfold State.onTimeExpiry
  split
  · exact State.Ranged.countOnPhase (h.modSlot ((h.slot i).closeWalk _)) i _
  · exact h

theorem State.Ranged.bleedExpiry (i : Fin 8) : (s.bleedExpiry i).Ranged := by
  rw [State.bleedExpiry_eq]
  split
  · exact h.resumeRun i false
  · exact h

theorem State.Ranged.restExpiry (i : Fin 8) : (s.restExpiry i).Ranged := by
  unfold State.restExpiry
  split
  · exact h.beginOnPhase i
  · exact h

theorem State.Ranged.endOfLead (i : Fin 8) : (s.endOfLead i).Ranged := by
  unfold State.endOfLead
  split
  · exact h.modSlot (h.slot i)
  · exact h

theorem State.Ranged.drainCompletion (i : Fin 8) : (s.drainCompletion i).Ranged := by
  unfold State.drainCompletion
  split
  · split
    · exact h.modSlot (h.slot i)
    · exact h.restore i
    · exact h.modSlot (h.slot i)
    · exact h.modSlot (h.slot i)
  · exact h

/-! ## Samples -/

theorem State.Ranged.trip (i : Fin 8) (t : TripCheck) : (s.trip i t).Ranged := by
  have hnoted : ((s.recordTrip i t).clearTrips i).Ranged :=
    State.Ranged.clearTrips (h.modSlot ((h.slot i).congr_active (by simp) (by simp))) i
  unfold State.trip
  dsimp only
  refine State.Ranged.modPair (State.Ranged.enterDrain ?_ i .faulted) ..
  split
  · exact hnoted.abandonOnPhase i .trip
  · exact hnoted

theorem State.Ranged.countTrips (checks : List TripCheck) : (s.countTrips checks).Ranged := by
  unfold State.countTrips
  induction checks generalizing s with
  | nil => exact h
  | cons t rest ih => exact ih (h.modChannel (h.channel t.channel))

theorem State.Ranged.applyOnFail (i : Fin 8) : (s.applyOnFail i).Ranged := by
  unfold State.applyOnFail
  split
  · exact h
  · exact h.countOnPhase i .sigfail
  · exact (h.abandonOnPhase i .sigfail).enterDrain i .faulted

theorem State.Ranged.countedSample (i : Fin 8) : (s.countedSample i).Ranged := by
  have hcounted := State.countedSlot_inRange (h.slot i)
  cases hout : (s.checkerOut i).2 with
  | none =>
    rw [State.countedSample_of_pass hout]
    exact h.modSlot hcounted
  | some cause =>
    rw [State.countedSample_of_fail hout]
    exact State.Ranged.applyOnFail (h.modSlot (hcounted.failed ..)) i

theorem State.Ranged.sampleAtSlot (i : Fin 8) : (s.sampleAtSlot i).Ranged := by
  have hv := h.countTrips (s.tripChecks i)
  by_cases hs : (s.slot i).active.state = .runOn ∨ (s.slot i).active.state = .manual
  · rw [State.sampleAtSlot_of_fed hs]
    dsimp only
    split
    · exact hv.trip i _
    split
    · exact hv.modSlot ((hv.slot i).withActive (hv.slot i).1.1 (Nat.min_le_right ..))
    split
    · exact hv
    · exact hv.countedSample i
  · rw [State.sampleAtSlot_of_unfed (fun e => hs (.inl e)) fun e => hs (.inr e)]
    exact h

theorem State.Ranged.sampleArrival (ch : Fin 8) (code : SenseCode) : (s.sampleArrival ch code).Ranged := by
  unfold State.sampleArrival
  split
  · exact h
  · exact State.Ranged.sampleAtSlot (h.modChannel ((h.channel ch).arrive code)) ch

theorem State.Ranged.pairSample (pr : Fin 4) (x y : SenseCode) : (s.pairSample pr x y).Ranged := by
  have hx := h.modChannel (f := fun c => c.arrive x) ((h.channel (lowerOf pr)).arrive x)
  unfold State.pairSample
  split
  · exact State.Ranged.sampleAtSlot (hx.modChannel ((hx.channel (upperOf pr)).arrive y)) _
  · exact h

end

/-! ## Holds, the shelf inputs and the trim store -/

section
variable {s : State} (h : s.Ranged)
include h

theorem State.Ranged.takeSlot (i : Fin 8) : (s.takeSlot i).Ranged := by
  have hhanded {u : State} (hu : u.Ranged) :
      ((u.modSlot i fun sl => sl.handOver (u.activeRecord i)).clearRails i).Ranged := by
    refine State.Ranged.modPair (hu.modSlot ⟨freshContext_countersInRange .., fun c hc => ?_⟩) ..
    cases hc
    exact (hu.slot i).1
  have hgiven {u : State} (hu : u.Ranged) (timer : Option Nat) :
      ((u.setHolder i .bench).modSlot i fun sl => { sl with holdTimer := timer }).Ranged :=
    (hu.setHolder i .bench).modSlot ((hu.setHolder i .bench).slot i)
  unfold State.takeSlot
  dsimp only
  split
  · exact hgiven (hhanded (h.abandonOnPhase i .abort)) _
  · exact hgiven (hhanded h) _

theorem State.Ranged.drainToRestore (i : Fin 8) (timer : Option Timer) : (s.drainToRestore i timer).Ranged :=
  (h.releaseBinding i).modSlot ⟨Context.countersInRange_reset, ((h.releaseBinding i).slot i).2⟩

theorem State.Ranged.endBenchContext (i : Fin 8) : (s.endBenchContext i).Ranged := by
  unfold State.endBenchContext
  dsimp only
  split
  · exact (h.abandonOnPhase i .abort).drainToRestore i _
  · exact (h.drainToRestore i _).modPair ..
  · exact h.drainToRestore i _
  · exact h.drainToRestore i _
  all_goals exact h.restore i

theorem State.Ranged.endBenchHold (i : Fin 8) : (s.endBenchHold i).Ranged := by
  have h' := (h.endBenchContext i).setHolder i .rack
  exact h'.modSlot (h'.slot i)

theorem State.Ranged.holdExpiry (i : Fin 8) : (s.holdExpiry i).Ranged := by
  unfold State.holdExpiry
  split
  · exact (h.endBenchHold i).modSlot ((h.endBenchHold i).slot i)
  · exact h

theorem State.Ranged.atEverySlot {f : State → Fin 8 → State} (hf : ∀ (u : State) i, u.Ranged → (f u i).Ranged) :
    (s.atEverySlot f).Ranged := by
  unfold State.atEverySlot
  induction List.finRange 8 generalizing s with
  | nil => exact h
  | cons i rest ih => exact ih (hf s i h)

theorem State.Ranged.assertInput {set : State → State} (hset : ∀ u : State, u.Ranged → (set u).Ranged) (k : PartFault)
    (already : Bool) : (s.assertInput k already set).Ranged := by
  have h' : (set (s.raisePart k)).Ranged := hset _ ⟨h.sense, h.slot⟩
  unfold State.assertInput
  dsimp only
  split
  · exact h
  split
  · exact h'
  · exact h'.atEverySlot fun u i hu => hu.pauseSlot i

theorem State.Ranged.releaseInput {set : State → State} (hset : ∀ u : State, u.Ranged → (set u).Ranged) :
    (s.releaseInput set).Ranged := by
  unfold State.releaseInput
  dsimp only
  split
  · exact (hset s h).atEverySlot fun u i hu => hu.resumeSlot i
  · exact hset s h

/-- The store takes what was captured within the ranges (R35). -/
theorem State.Ranged.completeProgramming : s.completeProgramming.Ranged := by
  obtain ⟨hchannels, hsdiv, hcount, hhold, hcaptured⟩ := h.sense
  unfold State.completeProgramming
  split
  · exact h
  next pg hpg =>
    refine ⟨⟨fun c => ?_, hsdiv, hcount, hhold, fun _ hn => by cases hn⟩, h.slot⟩
    obtain ⟨hpresent, hworking, -⟩ := hchannels c
    simp only [State.channel, Fin.getElem_fin, Vector.getElem_ofFn]
    exact ⟨hpresent, hworking, hcaptured pg hpg c⟩

end

/-! ## Resets and time -/

theorem State.channel_resetAll (s : State) (cause : ResetCause) (c : Fin 8) :
    (s.resetAll cause).channel c = (s.channel c).atReset cause := by
  simp [State.resetAll, State.channel]

theorem State.slot_resetAll (s : State) (cause : ResetCause) (i : Fin 8) :
    (s.resetAll cause).slot i = (s.slot i).atReset := by
  simp [State.resetAll, State.slot]

theorem State.sdiv_resetAll (s : State) (cause : ResetCause) :
    (s.resetAll cause).sdiv = if cause = .command then s.sdiv else 249 := rfl

theorem State.holdSetting_resetAll (s : State) (cause : ResetCause) :
    (s.resetAll cause).holdSetting = if cause = .command then s.holdSetting else 15 := rfl

section
variable {s : State} (h : s.Ranged)
include h

theorem State.Ranged.resetAll (cause : ResetCause) : (s.resetAll cause).Ranged := by
  obtain ⟨hchannels, hsdiv, hcount, hhold, -⟩ := h.sense
  refine ⟨⟨fun c => ?_, ?_, hcount, ?_, fun _ hn => by cases hn⟩, fun i => ?_⟩
  · obtain ⟨-, hworking, hstored⟩ := hchannels c
    rw [State.channel_resetAll]
    refine ⟨Nat.zero_le _, ?_, hstored⟩
    cases cause
    · exact hstored
    · exact hstored
    · exact hworking
  · rw [State.sdiv_resetAll]
    split
    · exact hsdiv
    · decide
  · rw [State.holdSetting_resetAll]
    split
    · exact hhold
    · decide
  · rw [State.slot_resetAll]
    exact ⟨Context.countersInRange_reset, fun _ hn => by cases hn⟩

theorem State.Ranged.hold : s.hold.Ranged := by
  obtain ⟨hchannels, hsdiv, hcount, hhold, -⟩ := h.sense
  exact ⟨⟨hchannels, hsdiv, hcount, hhold, fun _ hn => by cases hn⟩, h.slot⟩

theorem State.Ranged.tick : s.tick.Ranged := by
  obtain ⟨hchannels, hsdiv, hcount, hhold, hcaptured⟩ := h.sense
  unfold State.tick
  split
  · exact h
  · refine ⟨⟨fun c => ?_, hsdiv, hcount, hhold, fun pg hpg => ?_⟩, fun i => ?_⟩
    · simp only [State.channel, Fin.getElem_fin, Vector.getElem_ofFn]
      exact hchannels c
    · obtain ⟨pg', hpg', rfl⟩ := Option.map_eq_some_iff.mp hpg
      exact hcaptured pg' hpg'
    · simp only [State.slot, Fin.getElem_fin, Vector.getElem_ofFn]
      exact h.slot i

/-! ## Acceptance -/

theorem State.Ranged.onHeldSlot {act : Fin 8 → State → State × Reply}
    (hact : ∀ (i : Fin 8) (u : State), u.Ranged → (act i u).1.Ranged) (p : Party) (target : Nibble) :
    (s.onHeldSlot p target act).1.Ranged := by
  rcases s.onHeldSlot_cases p target act with ⟨-, e⟩ | ⟨i, -, ⟨-, e⟩ | ⟨-, -, e⟩ | ⟨-, -, e⟩⟩ <;> rw [e]
  · exact h
  · exact h
  · exact h
  · exact hact i _ (h.restartHold p i)

theorem State.Ranged.onAnySlot (p : Party) (target : Nibble) (report : Fin 8 → State → Reply) :
    (s.onAnySlot p target report).1.Ranged := by
  unfold State.onAnySlot
  split
  · exact h
  · exact h.restartHold p _

theorem State.Ranged.partWide {act : State → State × Reply} (hact : ∀ u : State, u.Ranged → (act u).1.Ranged)
    (p : Party) : (s.partWide p act).1.Ranged := by
  rcases s.partWide_cases p act with ⟨-, e⟩ | ⟨-, -, e⟩ | ⟨-, -, -, e⟩ <;> rw [e]
  · exact h
  · exact h
  · exact hact s h

/-! ## The slot commands -/

theorem State.Ranged.cmdBind (p : Party) (target arg : Nibble) : (cmdBind p target arg s).1.Ranged := by
  refine h.onHeldSlot (fun i u hu => ?_) p target
  split
  · exact hu
  split
  · exact hu
  · exact hu.bindTo i _

theorem State.Ranged.cmdUnbind (p : Party) (target arg : Nibble) : (cmdUnbind p target arg s).1.Ranged := by
  refine h.onHeldSlot (fun i u hu => ?_) p target
  split
  · exact hu.releaseBinding i
  · exact hu.releaseBinding i
  · exact hu

theorem State.Ranged.cmdStart (p : Party) (target arg : Nibble) : (cmdStart p target arg s).1.Ranged := by
  refine h.onHeldSlot (fun i u hu => ?_) p target
  dsimp only
  repeat' split
  iterate 4 exact hu
  exact State.Ranged.beginOnPhase (hu.modSlot ⟨⟨Nat.zero_le _, (hu.slot i).1.2⟩, (hu.slot i).2⟩) i

theorem State.Ranged.cmdStop (p : Party) (target arg : Nibble) : (cmdStop p target arg s).1.Ranged := by
  refine h.onHeldSlot (fun i u hu => ?_) p target
  split
  · exact (hu.abandonOnPhase i .abort).enterDrain i .idle
  · exact State.Ranged.reply (hu.modSlot (hu.slot i)) _
  · exact State.Ranged.reply (hu.modSlot (hu.slot i)) _
  · exact State.Ranged.reply (hu.modSlot (hu.slot i)) _
  · exact (hu.enterDrain i .idle).clearRails i
  all_goals exact hu

theorem State.Ranged.cmdAck (p : Party) (target arg : Nibble) : (cmdAck p target arg s).1.Ranged := by
  refine h.onHeldSlot (fun i u hu => ?_) p target
  split
  · split
    · exact hu
    · exact State.Ranged.reply (hu.modSlot (hu.slot i)) _
  all_goals exact hu

theorem State.Ranged.enterManual (i : Fin 8) (rails : Option Rails) : (s.enterManual i rails).Ranged :=
  State.Ranged.modPair
    (State.Ranged.clearTrips
      (h.modSlot ⟨⟨(h.slot i).1.1, Nat.zero_le _⟩, (h.slot i).2⟩) i) ..

theorem State.Ranged.driveSlot (form : DriveForm) (i : Fin 8) : (driveSlot form i s).1.Ranged := by
  unfold Machine.driveSlot
  split
  · split
    · exact h
    split
    · exact h
    · exact h.enterManual i _
  · exact h.enterDrain i .idle
  · exact h
  · exact State.Ranged.reply (h.modPair ..) _
  · exact (h.enterDrain i .idle).clearRails i
  · exact State.Ranged.reply (State.Ranged.clearRails (h.modSlot (h.slot i)) i) _
  · exact h

theorem State.Ranged.cmdDrive (p : Party) (target arg : Nibble) (op : Word) : (cmdDrive p target arg op s).1.Ranged := by
  unfold Machine.cmdDrive
  repeat' split
  iterate 3 exact h
  exact h.onHeldSlot (fun i u hu => hu.driveSlot _ i) p target

theorem State.Ranged.cmdSetConv (p : Party) (target arg : Nibble) (op : Word) :
    (cmdSetConv p target arg op s).1.Ranged :=
  h.onHeldSlot (fun i _ hu => State.Ranged.reply (hu.modSlot (hu.slot i)) _) p target

theorem State.Ranged.cmdSlotInit (p : Party) (target arg : Nibble) : (cmdSlotInit p target arg s).1.Ranged := by
  have hinit {u : State} (hu : u.Ranged) (i : Fin 8) : ((u.releaseBinding i).modSlot i Slot.initialise).Ranged :=
    (hu.releaseBinding i).modSlot ⟨Context.countersInRange_reset, ((hu.releaseBinding i).slot i).2⟩
  refine h.onHeldSlot (fun i u hu => ?_) p target
  split
  · exact hinit hu i
  · exact hinit hu i
  · exact hu

theorem State.Ranged.cmdSummaryRead (p : Party) (target arg : Nibble) : (cmdSummaryRead p target arg s).1.Ranged := by
  unfold Machine.cmdSummaryRead
  split
  · exact h
  · exact h.onAnySlot ..

/-! ## Holds, stacks, faults, profiles and pairs -/

theorem State.Ranged.cmdTake (p : Party) (target arg : Nibble) : (cmdTake p target arg s).1.Ranged := by
  unfold Machine.cmdTake
  repeat' split
  iterate 4 exact h
  · exact h.restartHold p _
  · exact h.takeSlot _
  · exact h

theorem State.Ranged.cmdRelease (p : Party) (target arg : Nibble) : (cmdRelease p target arg s).1.Ranged := by
  unfold Machine.cmdRelease
  repeat' split
  iterate 4 exact h
  exact h.endBenchHold _

/-- The hold-time setting is clamped (R151). -/
theorem State.Ranged.cmdHoldTime (p : Party) (target arg : Nibble) (op : Word) :
    (cmdHoldTime p target arg op s).1.Ranged := by
  obtain ⟨hchannels, hsdiv, hcount, -, hcaptured⟩ := h.sense
  unfold Machine.cmdHoldTime
  split
  · exact h
  split
  · exact h
  · exact ⟨⟨hchannels, hsdiv, hcount, clamp_range (by decide) _, hcaptured⟩, h.slot⟩

theorem State.Ranged.cmdEvPeek (p : Party) (target arg : Nibble) : (cmdEvPeek p target arg s).1.Ranged := by
  unfold Machine.cmdEvPeek
  split
  · exact h
  · exact h.onAnySlot ..

theorem State.Ranged.onStack {remove : Slot → Slot × Status}
    (hremove : ∀ sl, (remove sl).1.active = sl.active ∧ (remove sl).1.parked = sl.parked) (p : Party)
    (target : Nibble) : (s.onStack p target remove).1.Ranged := by
  refine h.onHeldSlot (fun i u hu => ?_) p target
  split
  · exact hu
  · exact State.Ranged.reply (hu.modSlot ((hu.slot i).congr_active (hremove _).1 (hremove _).2)) _

theorem State.Ranged.cmdEvFree (p : Party) (target arg : Nibble) : (cmdEvFree p target arg s).1.Ranged := by
  unfold Machine.cmdEvFree
  split
  · exact h
  · exact h.onStack (fun _ => ⟨rfl, rfl⟩) p target

theorem State.Ranged.cmdFaultRead (p : Party) (target arg : Nibble) (op : Word) :
    (cmdFaultRead p target arg op s).1.Ranged := by
  unfold Machine.cmdFaultRead
  split
  · exact ⟨h.sense, h.slot⟩
  split
  · exact h
  next i _ =>
    have h' := h.restartHold p i
    dsimp only
    exact h'.modSlot ((h'.slot i).congr_active (Slot.readFaults_kept ..).1 (Slot.readFaults_kept ..).2)

theorem State.Ranged.cmdAlertMask (p : Party) (target arg : Nibble) (op : Word) :
    (cmdAlertMask p target arg op s).1.Ranged := by
  unfold Machine.cmdAlertMask
  split
  · exact h
  · cases p <;> exact ⟨h.sense, h.slot⟩

theorem State.Ranged.cmdProfileWrite (p : Party) (target arg : Nibble) (ops : List Word) :
    (cmdProfileWrite p target arg ops s).1.Ranged := by
  unfold Machine.cmdProfileWrite
  split
  · exact h
  dsimp only
  split
  · exact h
  split
  · exact h
  · exact State.Ranged.reply (h.modProfile ..) _

theorem State.Ranged.setPair (pr : Fin 4) (mode : PairMode) : (s.setPair pr mode).Ranged := by
  have hkept {u : State} (hu : u.Ranged) (f : Channel → Channel) (hf : ∀ c : Channel, c.InRange → (f c).InRange) :
      ((u.modChannel (lowerOf pr) f).modChannel (upperOf pr) f).Ranged := by
    have h' := hu.modChannel (hf _ (hu.channel (lowerOf pr)))
    exact h'.modChannel (hf _ (h'.channel (upperOf pr)))
  have hmoded := (h.releaseBinding (upperOf pr)).modPair pr fun _ => { mode := mode, rails := none }
  unfold State.setPair
  dsimp only
  generalize ((s.releaseBinding (upperOf pr)).modPair pr fun _ => _) = u at hmoded
  have hrestarted : (if mode ≠ .separate ∧ mode ≠ (s.pair pr).mode then
      (u.modChannel (lowerOf pr) Channel.restart).modChannel (upperOf pr) Channel.restart else u).Ranged := by
    split
    · exact hkept hmoded _ fun _ hc => hc
    · exact hmoded
  have hcleared := hkept hrestarted (fun c => { c with tripCount := 0 }) fun _ hc => hc
  split
  · exact hcleared
  · exact hcleared.modSlot (hcleared.slot _)

theorem State.Ranged.cmdPair (p : Party) (target arg : Nibble) : (cmdPair p target arg s).1.Ranged := by
  unfold Machine.cmdPair
  split
  · dsimp only
    split
    · exact h
    split
    · exact (h.restartHold ..).setPair ..
    · exact h.restartHold ..
  · exact h

theorem State.Ranged.cmdPartStatus (p : Party) (target arg : Nibble) : (cmdPartStatus p target arg s).1.Ranged := by
  unfold Machine.cmdPartStatus
  split <;> exact h

/-! ## The part-wide commands -/

/-- The divider is clamped (R39). -/
theorem State.Ranged.cmdSetSampling (p : Party) (target arg : Nibble) (op : Word) :
    (cmdSetSampling p target arg op s).1.Ranged := by
  unfold Machine.cmdSetSampling
  split
  · exact h
  · refine h.partWide (fun u hu => ?_) p
    obtain ⟨hchannels, -, hrest⟩ := hu.sense
    refine ⟨⟨fun c => ?_, clamp_range (by decide) _, hrest⟩, hu.slot⟩
    rw [State.reply_fst, State.channel_restartConverters]
    exact hchannels c

/-- The trim and the gain are clamped (R32). -/
theorem State.Ranged.cmdTrimSet (p : Party) (target arg : Nibble) (op : Word) :
    (cmdTrimSet p target arg op s).1.Ranged := by
  unfold Machine.cmdTrimSet
  split
  · exact h
  next ch _ =>
    refine h.partWide (fun u hu => State.Ranged.reply (hu.modChannel ?_) _) p
    obtain ⟨hpresent, -, hstored⟩ := hu.channel ch
    exact ⟨hpresent, ⟨le_max_left .., max_le (by decide) (min_le_left ..), (clamp_range (by decide) _).2⟩, hstored⟩

theorem State.Ranged.cmdTrimRead (p : Party) (target arg : Nibble) : (cmdTrimRead p target arg s).1.Ranged := by
  unfold Machine.cmdTrimRead
  split <;> exact h

/-- The program count stops at 15, and the working values are captured as they stand (R34, R35). -/
theorem State.Ranged.cmdTrimProgram (p : Party) (target arg : Nibble) : (cmdTrimProgram p target arg s).1.Ranged := by
  unfold Machine.cmdTrimProgram
  split
  · exact h
  · refine h.partWide (fun u hu => ?_) p
    obtain ⟨hchannels, hsdiv, -, hhold, -⟩ := hu.sense
    split
    · exact hu
    next hcount =>
      refine ⟨⟨hchannels, hsdiv, Nat.succ_le_of_lt (Nat.lt_of_not_le hcount), hhold, fun pg hpg => ?_⟩, hu.slot⟩
      cases hpg
      intro c
      simp only [Fin.getElem_fin, Vector.getElem_ofFn]
      exact (hchannels c).2.1

theorem State.Ranged.cmdDeviceReset (p : Party) (target arg : Nibble) : (cmdDeviceReset p target arg s).1.Ranged := by
  unfold Machine.cmdDeviceReset
  repeat' split
  iterate 3 exact h
  exact h.resetAll .command

/-! ## Every command, every event, every step -/

theorem State.Ranged.act (c : Cmd) (p : Party) (target arg : Nibble) (ops : List Word) :
    (Cmd.act c p target arg ops s).1.Ranged := by
  cases c with
  | bind => exact h.cmdBind p target arg
  | unbind => exact h.cmdUnbind p target arg
  | start => exact h.cmdStart p target arg
  | stop => exact h.cmdStop p target arg
  | ack => exact h.cmdAck p target arg
  | drive => exact h.cmdDrive p target arg _
  | setConv => exact h.cmdSetConv p target arg _
  | slotInit => exact h.cmdSlotInit p target arg
  | status => exact h.onAnySlot ..
  | summaryRead => exact h.cmdSummaryRead p target arg
  | take => exact h.cmdTake p target arg
  | release => exact h.cmdRelease p target arg
  | holdTime => exact h.cmdHoldTime p target arg _
  | evPeek => exact h.cmdEvPeek p target arg
  | evRetire => exact h.onStack (fun _ => ⟨rfl, rfl⟩) p target
  | evFree => exact h.cmdEvFree p target arg
  | evClear => exact h.onStack (fun _ => ⟨rfl, rfl⟩) p target
  | faultRead => exact h.cmdFaultRead p target arg _
  | alertMask => exact h.cmdAlertMask p target arg _
  | profileWrite => exact h.cmdProfileWrite p target arg ops
  | profileRead => exact h
  | pair => exact h.cmdPair p target arg
  | partStatus => exact h.cmdPartStatus p target arg
  | setSampling => exact h.cmdSetSampling p target arg _
  | trimSet => exact h.cmdTrimSet p target arg _
  | trimRead => exact h.cmdTrimRead p target arg
  | trimProgram => exact h.cmdTrimProgram p target arg
  | deviceReset => exact h.cmdDeviceReset p target arg

theorem State.Ranged.takes {t : State} (ht : s.Takes t) : t.Ranged := by
  cases ht with
  | wires hw => exact h.onlyWires hw
  | command c p target arg ops hu _ _ hw => exact ((h.onlyWires hu).act c p target arg ops).onlyWires hw

theorem State.Ranged.live {f : State → State} {t : State} (hf : ∀ u : State, u.Ranged → (f u).Ranged)
    (ht : s.live f = .next t) : t.Ranged := by
  unfold State.live at ht
  injection ht with ht
  rw [← ht]
  split
  · exact h
  · exact hf s h

theorem State.Ranged.withPins (pins : Pins) : State.Ranged { s with pins := pins } := ⟨h.sense, h.slot⟩

theorem State.Ranged.event {e : Instr} (he : isEvent e = true) {t : State} (ht : exec e s = .next t) : t.Ranged := by
  have heat (b : Bool) (u : State) (hu : u.Ranged) : State.Ranged { u with heat := b } := ⟨hu.sense, hu.slot⟩
  have supply (b : Bool) (u : State) (hu : u.Ranged) : State.Ranged { u with supplyLow := b } := ⟨hu.sense, hu.slot⟩
  cases e with
  | sampleArrival ch code => exact h.live (fun u hu => hu.sampleArrival ch code) ht
  | pairSampleEvent pr x y => exact h.live (fun u hu => hu.pairSample pr x y) ht
  | onTimeExpiry i => exact h.live (fun u hu => hu.onTimeExpiry i) ht
  | bleedExpiry i => exact h.live (fun u hu => hu.bleedExpiry i) ht
  | restExpiry i => exact h.live (fun u hu => hu.restExpiry i) ht
  | endOfLead i => exact h.live (fun u hu => hu.endOfLead i) ht
  | drainCompletion i => exact h.live (fun u hu => hu.drainCompletion i) ht
  | holdTimerExpiry i => exact h.live (fun u hu => hu.holdExpiry i) ht
  | trimProgrammingCompletion => exact h.live (fun u hu => hu.completeProgramming) ht
  | heatAsserted => exact (h.withPins _).live (fun u hu => hu.assertInput (heat true) _ _) ht
  | heatReleased => exact (h.withPins _).live (fun u hu => hu.releaseInput (heat false)) ht
  | supplyLowAsserted => exact (h.withPins _).live (fun u hu => hu.assertInput (supply true) _ _) ht
  | supplyLowReleased => exact (h.withPins _).live (fun u hu => hu.releaseInput (supply false)) ht
  | resetLineAsserted =>
    injection ht with ht
    rw [← ht]
    split
    · exact h
    · exact (h.withPins _).hold
  | resetLineReleased =>
    injection ht with ht
    rw [← ht]
    split
    · dsimp only
      split
      · exact (h.withPins _).resetAll .line
      · exact h.withPins _
    · exact h
  | logicSupplyLoss =>
    injection ht with ht
    rw [← ht]
    split
    · exact (h.withPins _).hold
    · exact h
  | powerOn =>
    injection ht with ht
    rw [← ht]
    split
    · exact h
    · exact (h.withPins _).resetAll .power
  | _ => exact Bool.noConfusion he

theorem State.Ranged.exec {c : Instr} {t : State} (ht : exec c s = .next t) : t.Ranged := by
  cases hc : isEvent c with
  | true => exact h.event hc ht
  | false =>
    obtain ⟨t', ht', htakes⟩ := exec_takes c s hc
    rw [ht] at ht'
    injection ht' with e
    rw [e]
    exact h.takes htakes

theorem State.Ranged.step {t : State} (ht : step s = .next t) : t.Ranged := by
  unfold Machine.step at ht
  split at ht
  next rest _ => exact State.Ranged.exec (s := { s with pending := rest }) ⟨h.sense, h.slot⟩ ht
  · unfold idleStep at ht
    split at ht
    · exact State.Ranged.exec (s := s.useFree) ⟨h.sense, h.slot⟩ ht
    · injection ht with ht
      rw [← ht]
      exact h.tick

end

/-- Settles O11: a step is made of updates each of which writes values within the ranges. -/
theorem rangesAreKept : Obligations.RangesAreKept := fun s t hsense hcounters ht =>
  t.ranged_iff.mp ((s.ranged_iff.mpr ⟨hsense, hcounters⟩).step ht)

end Sys2Proof.Machine
end

section
/-!
PROOFS. ALERT-MASK, PART-STATUS, TRIM-READ and PROFILE-READ answer either party (O44).
-/

namespace Sys2Proof.Machine

/-! ## Flags and signed fields of words -/

theorem getLsbD_eq_of_bitsOf {w : Word} {n : Nat} {b : Bool} (h : bitsOf w n 1 = b.toNat % 2) : w.getLsbD n = b := by
  rw [getLsbD_eq_bitsOf, h]
  cases b <;> rfl

/-- A signed field is the field of its two's complement. -/
theorem signedAt_eq_field (lo : Nat) (v : Int) : signedAt lo v = field 16 lo (BitVec.ofInt 16 v).toNat := by
  rw [signedAt, field, BitVec.ofNat_toNat, BitVec.setWidth_eq]

/-- A value of 16 bits reads back as placed beside another. -/
theorem signedOf_of_bitsOf {w : Word} {lo : Nat} {v : Int} (h : bitsOf w lo 16 = (BitVec.ofInt 16 v).toNat)
    (hlow : -32768 ≤ v) (hhigh : v < 32768) : signedOf w lo = v := by
  have e : w.extractLsb' lo 16 = BitVec.ofInt 16 v := BitVec.eq_of_toNat_eq h
  rw [signedOf, e, BitVec.toInt_ofInt]
  exact Int.bmod_eq_of_le (by omega) (by omega)

/-! ## ALERT-MASK -/

theorem State.mask_setMask_self (s : State) (p : Party) (m : AlertMask) : (s.setMask p m).mask p = m := by
  cases p <;> rfl

theorem State.mask_setMask_other (s : State) (p : Party) (m : AlertMask) :
    (s.setMask p m).mask (otherParty p) = s.mask (otherParty p) := by
  cases p <;> rfl

theorem State.setMask_frame (s : State) (p : Party) (m : AlertMask) :
    s.setMask p m = { s with rackMask := (s.setMask p m).rackMask, benchMask := (s.setMask p m).benchMask } := by
  cases p <;> rfl

theorem alertMask_completes {p : Party} {arg : Nibble} {s : State} (h : s.held = false) (op : Word) :
    ∃ t, exec (.alertMask p 15 arg op) s = .next t ∧ s.Answered p .alertMask 15 .ok [] t
      ∧ (s.setMask p (alertMaskOf op)).OnlyPorts t := by
  refine State.command_replies h .alertMask rfl ?_
  rw [s.setMask_frame p]
  exact ⟨rfl, rfl, rfl⟩

/-! ## The reports -/

/-- A command that changes nothing but the issuer's port, and reports. -/
theorem State.command_reports {s : State} {p : Party} {target : Nibble} {act : State → State × Reply} {words : List Word}
    (h : s.held = false) (c : Cmd) (hact : act s = (s, Reply.report words)) :
    ∃ t, s.command p c target act = .next t ∧ s.Answered p c target .ok words t ∧ s.OnlyPorts t :=
  State.command_completes (r := Reply.report words) h c hact ⟨rfl, rfl, rfl⟩

/-- The first word of a PART-STATUS reply (12.6). -/
def State.partHead (s : State) : Word :=
  field 2 0 s.resetCause.code ||| flagAt 2 s.trimBusy ||| field 4 4 s.programCount
    ||| field 2 8 (s.pair 0).mode.code ||| field 2 10 (s.pair 1).mode.code ||| field 2 12 (s.pair 2).mode.code
    ||| field 2 14 (s.pair 3).mode.code ||| flagAt 16 s.heat ||| flagAt 17 s.supplyLow
    ||| field 5 24 s.partFaults.f.toNat

theorem State.partWords_eq (s : State) : s.partWords = [s.partHead, field 10 0 s.sdiv] := rfl

theorem State.partHead_fields (s : State) :
    bitsOf s.partHead 0 2 = s.resetCause.code % 4 ∧ bitsOf s.partHead 2 1 = s.programming.isSome.toNat % 2
      ∧ bitsOf s.partHead 4 4 = s.programCount % 16 ∧ bitsOf s.partHead 16 1 = s.heat.toNat % 2
      ∧ bitsOf s.partHead 17 1 = s.supplyLow.toNat % 2 ∧ bitsOf s.partHead 24 5 = s.partFaults.f.toNat % 32 := by
  simp [State.partHead, State.trimBusy, flagAt, bitsOf_or, bitsOf_field_same, bitsOf_field_other]

theorem State.partHead_mode (s : State) (q : Fin 4) :
    bitsOf s.partHead (8 + 2 * q.val) 2 = (s.pair q).mode.code % 4 := by
  match q with
  | 0 | 1 | 2 | 3 => simp [State.partHead, flagAt, bitsOf_or, bitsOf_field_same, bitsOf_field_other]

theorem ResetCause.code_mod (c : ResetCause) :
    c.code % 4 = match c with
      | .power => 0
      | .line => 1
      | .command => 2 := by
  cases c <;> rfl

theorem PairMode.code_mod (m : PairMode) :
    m.code % 4 = match m with
      | .separate => 0
      | .gang => 1
      | .dual => 2 := by
  cases m <;> rfl

/-- A trim and a gain in their ranges stand in their word (12.6). -/
theorem calibrationWord_fields {trim : Int} {gain : Nat} (h : calibrationInRange trim gain) :
    signedOf (field 16 0 gain ||| signedAt 16 trim) 16 = trim
      ∧ bitsOf (field 16 0 gain ||| signedAt 16 trim) 0 16 = gain := by
  obtain ⟨hlow, hhigh, hgain⟩ := h
  rw [signedAt_eq_field]
  refine ⟨signedOf_of_bitsOf ?_ (by omega) (by omega), ?_⟩
  · rw [bitsOf_or, bitsOf_field_other (by omega), bitsOf_field_same (by omega), Nat.zero_or]
    exact Nat.mod_eq_of_lt (BitVec.ofInt 16 trim).isLt
  · rw [bitsOf_or, bitsOf_field_same (by omega), bitsOf_field_other (by omega), Nat.or_zero]
    exact Nat.mod_eq_of_lt (by omega)

/-- The last word of a TRIM-READ reply. -/
theorem trimTail_fields (count : Nat) (busy : Bool) :
    bitsOf (field 4 0 count ||| flagAt 4 busy) 0 4 = count % 16
      ∧ bitsOf (field 4 0 count ||| flagAt 4 busy) 4 1 = busy.toNat % 2 := by
  simp [flagAt, bitsOf_or, bitsOf_field_same, bitsOf_field_other]

/-- The first word of a PROFILE-READ reply. -/
theorem profileHead_fields (id count uses : Nat) :
    bitsOf (field 4 0 id ||| field 4 8 count ||| field 5 16 uses) 0 4 = id % 16
      ∧ bitsOf (field 4 0 id ||| field 4 8 count ||| field 5 16 uses) 8 4 = count % 16
      ∧ bitsOf (field 4 0 id ||| field 4 8 count ||| field 5 16 uses) 16 5 = uses % 32 := by
  simp [bitsOf_or, bitsOf_field_same, bitsOf_field_other]

/-- Settles O44: ALERT-MASK is the issuer's mask; each report is read back field by field. -/
theorem alertMaskAndPartReadsAnswerEitherParty : Obligations.AlertMaskAndPartReadsAnswerEitherParty := by
  intro p arg s h
  refine ⟨fun op => ?_, ?_, fun ch => ?_, fun target => ?_⟩
  · obtain ⟨t, hexec, hans, ht⟩ := alertMask_completes (p := p) (arg := arg) h op
    have hmask (q : Party) : t.mask q = (s.setMask p (alertMaskOf op)).mask q := by
      rw [ht]
      cases q <;> rfl
    refine ⟨t, hexec, hans, ?_, ?_, ?_⟩
    · rw [hmask, State.mask_setMask_self]
      rfl
    · rw [hmask, State.mask_setMask_other]
    · rw [ht, s.setMask_frame p]
  · obtain ⟨t, hexec, hans, ht⟩ : ∃ t, exec (.partStatus p 15 arg) s = .next t
        ∧ s.Answered p .partStatus 15 .ok s.partWords t ∧ s.OnlyPorts t :=
      State.command_reports h .partStatus rfl
    obtain ⟨hcause, hbusy, hcount, hheat, hsupply, hfaults⟩ := s.partHead_fields
    refine ⟨t, _, _, hexec, hans, ht, hcause.trans s.resetCause.code_mod, getLsbD_eq_of_bitsOf hbusy, hcount,
      fun q => (s.partHead_mode q).trans (s.pair q).mode.code_mod, getLsbD_eq_of_bitsOf hheat,
      getLsbD_eq_of_bitsOf hsupply, ?_, bitsOf_field_same (by omega) s.sdiv⟩
    exact BitVec.eq_of_toNat_eq (hfaults.trans (Nat.mod_eq_of_lt s.partFaults.f.isLt))
  · obtain ⟨t, hexec, hans, ht⟩ : ∃ t, exec (.trimRead p (slotField ch) arg) s = .next t
        ∧ s.Answered p .trimRead (slotField ch) .ok (s.trimWords ch) t ∧ s.OnlyPorts t :=
      State.command_reports h .trimRead (by rw [cmdTrimRead, slotOf_slotField])
    obtain ⟨hcount, hbusy⟩ := trimTail_fields s.programCount s.trimBusy
    refine ⟨t, _, _, _, hexec, hans, ht, fun hrange => ?_, hcount, getLsbD_eq_of_bitsOf hbusy⟩
    obtain ⟨-, hworking, hstored⟩ := hrange
    obtain ⟨htrim, hgain⟩ := calibrationWord_fields hworking
    obtain ⟨hstrim, hsgain⟩ := calibrationWord_fields hstored
    exact ⟨htrim, hgain, hstrim, hsgain⟩
  · obtain ⟨t, hexec, hans, ht⟩ : ∃ t, exec (.profileRead p target arg) s = .next t
        ∧ s.Answered p .profileRead target .ok (s.profileWords (profileOf target)) t ∧ s.OnlyPorts t :=
      State.command_reports h .profileRead rfl
    obtain ⟨hid, hcount, huses⟩ := profileHead_fields target.toNat
      (s.profile (profileOf target)).record.stages.length (s.profile (profileOf target)).useCount
    exact ⟨t, _, hexec, hans, ht, hid.trans (Nat.mod_eq_of_lt target.isLt), hcount, huses⟩

end Sys2Proof.Machine
end

section
/-!
PROOFS. A held part takes nothing (O56).
-/

namespace Sys2Proof.Machine

/-- What becomes of the bus when the part is held (R183). -/
theorem Bus.abandon_eq (b : Bus) : b.abandon = if b = .idle then .idle else .ignored := by
  cases b <;> rfl

theorem State.hold_eq (s : State) :
    s.hold =
      { s with
        programming := none, bus := if s.bus = .idle then .idle else .ignored, rdo := [], benchLine := .released } := by
  rw [State.hold, Bus.abandon_eq]

/-- The rows that a held part follows: its inputs and its supply. -/
def isInput : Instr → Bool
  | .heatAsserted | .heatReleased | .supplyLowAsserted | .supplyLowReleased | .resetLineAsserted | .resetLineReleased
  | .logicSupplyLoss | .powerOn => true
  | _ => false

theorem mem_inputs {c : Instr} (h : isInput c = true) :
    c ∈ [.heatAsserted, .heatReleased, .supplyLowAsserted, .supplyLowReleased, .resetLineAsserted, .resetLineReleased,
      .logicSupplyLoss, .powerOn] := by
  cases c <;> simp_all [isInput]

/-- Every other row acts on a part that is not held, if at all. -/
theorem exec_eq_live {c : Instr} (hc : isInput c = false) : ∃ f : State → State, ∀ s, exec c s = s.live f := by
  cases c <;> first | exact ⟨_, fun _ => rfl⟩ | exact Bool.noConfusion hc

theorem exec_of_held {c : Instr} {s : State} (h : s.held = true) (hc : isInput c = false) : exec c s = .next s := by
  obtain ⟨f, hf⟩ := exec_eq_live hc
  rw [hf, State.live_of_held f h]

/-- Settles O56: by the pins, for the inputs' own rows; every other row acts only on a part that is not held. -/
theorem heldPartTakesNothing : Obligations.HeldPartTakesNothing := by
  refine ⟨fun s h => ?_, fun s h => ?_, fun c s h hc => exec_of_held h ?_, fun s h => ?_, fun s hr hl => ?_, fun s => ?_⟩
  · show Host.Outcome.next _ = _
    rw [if_neg (by simp [h]), State.hold_eq]
  · show Host.Outcome.next _ = _
    rw [if_pos h, State.hold_eq]
  · exact Bool.eq_false_iff.mpr fun e => hc (mem_inputs e)
  · refine ⟨?_, ?_, ?_, ?_⟩ <;> exact congrArg Host.Outcome.next (if_pos h)
  · show Host.Outcome.next _ = _
    rw [if_pos hr]
    dsimp only
    rw [if_neg (by simp [hl])]
  · refine ⟨fun h => ?_, fun h => ?_, fun h => ?_, fun h => ?_⟩ <;> show Host.Outcome.next _ = _ <;> simp [h]

end Sys2Proof.Machine
end

section
/-!
SUPPORT. The holds and the use counts of the part as one invariant (`State.Standing`), and what the work of one slot must
leave for it to stand: the other slots, the modes, and a use count for every binding taken or given up (`State.Rebinds`).
-/

namespace Sys2Proof.Machine

/-! ## The invariant -/

/-- Use counts count the contexts bound (R53), upper slots of paired pairs stand aside (R137), contexts are parked only while
the bench holds (R148); and, where `atStart`, the checkers of those upper slots are at their starting values (R59). -/
structure State.Standing (atStart : Prop) (s : State) : Prop where
  counts : s.UseCountsMatch
  aside : s.UpperStandsAside
  parked (i : Fin 8) : (s.slot i).ParkedOnlyWhileHeld
  checkers : atStart → s.UpperCheckersAtStart

theorem State.upperPaired_upperOf (s : State) (p : Fin 4) :
    s.upperPaired (upperOf p) = true ↔ (s.pair p).mode ≠ .separate := by
  simp [State.upperPaired, State.isPaired, State.mode]

theorem State.lowerPaired_lowerOf {s : State} {p : Fin 4} (h : (s.pair p).mode ≠ .separate) :
    s.lowerPaired (lowerOf p) = true := by
  simp [State.lowerPaired, State.isPaired, State.mode, h]

/-- The slot that governs a slot does not stand aside. -/
theorem State.upperPaired_governor (s : State) (i : Fin 8) : s.upperPaired (s.governor i) = false := by
  unfold State.governor
  split
  · simp [State.upperPaired]
  next h => simp [State.upperPaired, h]

/-- A slot that does anything, or whose hold timer runs, does not stand aside (R137). -/
theorem State.Standing.not_aside {a : Prop} {s : State} (h : s.Standing a) {i : Fin 8}
    (hbusy : (s.slot i).active.state ≠ .idle ∨ (s.slot i).holdTimer.isSome = true) : s.upperPaired i = false := by
  refine Bool.eq_false_iff.mpr fun hu => ?_
  have hi : upperOf (pairOf i) = i := eq_upperOf_of_upper (by simp_all [State.upperPaired])
  rw [← hi, State.upperPaired_upperOf] at hu
  obtain ⟨-, hidle, -, -, htimer⟩ := h.aside _ hu
  rw [hi] at hidle htimer
  rcases hbusy with hb | hb
  · exact hb hidle
  · rw [htimer] at hb
    cases hb

/-- A slot that is no rack-held slot draining to RESTORE parks a context only for the bench. -/
theorem Slot.ParkedOnlyWhileHeld.keep {sl sl' : Slot} (h : sl.ParkedOnlyWhileHeld) (hholder : sl'.holder = sl.holder)
    (hparked : sl'.parked = sl.parked)
    (hdrain : ¬ (sl.active.state = .drain ∧ sl.active.drainNext = some .restore)) : sl'.ParkedOnlyWhileHeld := by
  intro hp
  rw [hparked] at hp
  rw [hholder]
  exact .inl ((h hp).resolve_right hdrain)

/-! ## Counting bindings -/

theorem State.contextsBoundTo_eq_sum (s : State) (p : Fin 16) : s.contextsBoundTo p = ∑ i, (s.slot i).boundTo p := by
  rw [Fin.sum_univ_eight]
  rfl

/-- The contexts of one slot are among those of the part. -/
theorem State.UseCountsMatch.boundTo_le {s : State} (h : s.UseCountsMatch) (i : Fin 8) (p : Fin 16) :
    (s.slot i).boundTo p ≤ (s.profile p).useCount := by
  rw [h p, State.contextsBoundTo_eq_sum]
  exact Finset.single_le_sum (f := fun i => (s.slot i).boundTo p) (fun _ _ => Nat.zero_le _) (Finset.mem_univ i)

/-- Where all slots but one have the same contexts bound, the whole count moves as that slot's. -/
theorem State.contextsBoundTo_add {s t : State} {i : Fin 8} {p : Fin 16}
    (h : ∀ j, j ≠ i → (t.slot j).boundTo p = (s.slot j).boundTo p) :
    t.contextsBoundTo p + (s.slot i).boundTo p = s.contextsBoundTo p + (t.slot i).boundTo p := by
  have hrest : ∑ j ∈ Finset.univ.erase i, (t.slot j).boundTo p = ∑ j ∈ Finset.univ.erase i, (s.slot j).boundTo p :=
    Finset.sum_congr rfl fun j hj => h j (Finset.ne_of_mem_erase hj)
  simp only [State.contextsBoundTo_eq_sum, ← Finset.add_sum_erase Finset.univ _ (Finset.mem_univ i), hrest]
  omega

theorem Slot.boundTo_congr {sl sl' : Slot} (hb : sl'.active.bound = sl.active.bound) (hp : sl'.parked = sl.parked)
    (p : Fin 16) : sl'.boundTo p = sl.boundTo p := by
  simp only [Slot.boundTo, hb, hp]

/-- A slot that parks nothing counts its active context alone. -/
theorem Slot.boundTo_of_unparked {sl : Slot} (h : sl.parked = none) (p : Fin 16) :
    sl.boundTo p = if sl.active.bound = some p then 1 else 0 := by
  simp [Slot.boundTo, h]

/-- A slot whose active context is unbound counts the one it parks. -/
theorem Slot.boundTo_of_unbound {sl : Slot} {c : Context} (hb : sl.active.bound = none) (hp : sl.parked = some c)
    (p : Fin 16) : sl.boundTo p = if c.bound = some p then 1 else 0 := by
  simp [Slot.boundTo, hb, hp]

/-! ## The work of one slot -/

/-- Slot `i` changes, with its bindings; the other slots and the modes do not, and the use counts follow the bindings. -/
structure State.Rebinds (i : Fin 8) (s t : State) : Prop where
  others (j : Fin 8) : j ≠ i → t.slot j = s.slot j
  modes (q : Fin 4) : (t.pair q).mode = (s.pair q).mode
  counts (p : Fin 16) :
    (t.profile p).useCount + (s.slot i).boundTo p = (s.profile p).useCount + (t.slot i).boundTo p

theorem State.Rebinds.refl (i : Fin 8) (s : State) : State.Rebinds i s s := ⟨fun _ _ => rfl, fun _ => rfl, fun _ => rfl⟩

theorem State.Rebinds.trans {i : Fin 8} {s u t : State} (h : State.Rebinds i s u) (h' : State.Rebinds i u t) :
    State.Rebinds i s t := by
  refine ⟨fun j hj => (h'.others j hj).trans (h.others j hj), fun q => (h'.modes q).trans (h.modes q), fun p => ?_⟩
  have := h.counts p
  have := h'.counts p
  omega

theorem State.Rebinds.useCountsMatch {i : Fin 8} {s t : State} (h : State.Rebinds i s t) (hs : s.UseCountsMatch) :
    t.UseCountsMatch := by
  intro p
  have := h.counts p
  have := hs p
  have := State.contextsBoundTo_add (p := p) fun j hj => congrArg (Slot.boundTo · p) (h.others j hj)
  omega

/-- Slot `i` changes but for its holder, its parked context and its binding; the other slots, the modes and the store do
not. -/
structure State.OwnWork (i : Fin 8) (s t : State) : Prop where
  others (j : Fin 8) : j ≠ i → t.slot j = s.slot j
  modes (q : Fin 4) : (t.pair q).mode = (s.pair q).mode
  profiles (p : Fin 16) : t.profile p = s.profile p
  holder : (t.slot i).holder = (s.slot i).holder
  parked : (t.slot i).parked = (s.slot i).parked
  bound : (t.slot i).active.bound = (s.slot i).active.bound

theorem State.OwnWork.refl (i : Fin 8) (s : State) : State.OwnWork i s s :=
  ⟨fun _ _ => rfl, fun _ => rfl, fun _ => rfl, rfl, rfl, rfl⟩

theorem State.OwnWork.trans {i : Fin 8} {s u t : State} (h : State.OwnWork i s u) (h' : State.OwnWork i u t) :
    State.OwnWork i s t :=
  ⟨fun j hj => (h'.others j hj).trans (h.others j hj), fun q => (h'.modes q).trans (h.modes q),
    fun p => (h'.profiles p).trans (h.profiles p), h'.holder.trans h.holder, h'.parked.trans h.parked,
    h'.bound.trans h.bound⟩

theorem State.OwnWork.rebinds {i : Fin 8} {s t : State} (h : State.OwnWork i s t) : State.Rebinds i s t := by
  refine ⟨h.others, h.modes, fun p => ?_⟩
  rw [h.profiles, Slot.boundTo_congr h.bound h.parked]

/-- Slot `i` changes, and the slot that stands aside to it takes its holder; the modes do not change, and the use counts
follow the bindings. -/
structure State.WorksGiving (i : Fin 8) (s t : State) : Prop where
  others (j : Fin 8) : j ≠ i → t.slot j = { s.slot j with
    holder := if s.lowerPaired i = true ∧ j = upperOf (pairOf i) then (t.slot i).holder else (s.slot j).holder }
  modes (q : Fin 4) : (t.pair q).mode = (s.pair q).mode
  counts (p : Fin 16) :
    (t.profile p).useCount + (s.slot i).boundTo p = (s.profile p).useCount + (t.slot i).boundTo p

theorem State.pair_of_lowerPaired {s : State} {i : Fin 8} (h : s.lowerPaired i = true) :
    lowerOf (pairOf i) = i ∧ (s.pair (pairOf i)).mode ≠ .separate := by
  simp only [State.lowerPaired, State.isPaired, State.mode, Bool.and_eq_true, Bool.not_eq_true', bne_iff_ne] at h
  exact ⟨eq_lowerOf_of_not_upper h.1, h.2⟩

/-- Where the holder stands, the slot that stands aside has it already. -/
theorem State.Rebinds.worksGiving {i : Fin 8} {s t : State} (h : State.Rebinds i s t) (haside : s.UpperStandsAside)
    (hholder : (t.slot i).holder = (s.slot i).holder) : State.WorksGiving i s t := by
  refine ⟨fun j hj => ?_, h.modes, h.counts⟩
  rw [h.others j hj]
  split
  next hgiven =>
    obtain ⟨hl, rfl⟩ := hgiven
    obtain ⟨hlower, hmode⟩ := State.pair_of_lowerPaired hl
    obtain ⟨hsame, -⟩ := haside _ hmode
    rw [hlower] at hsame
    rw [hholder, ← hsame]
  next => rfl

/-- A slot's new holder is given to the slot that stands aside to it. -/
theorem State.Rebinds.setHolder {i : Fin 8} {s t : State} (h : State.Rebinds i s t) (p : Party) (timer : Option Nat) :
    State.WorksGiving i s ((t.setHolder i p).modSlot i fun sl => { sl with holdTimer := timer }) := by
  have hself : ((t.setHolder i p).modSlot i fun sl => { sl with holdTimer := timer }).slot i =
      { t.slot i with holder := p, holdTimer := timer } := by
    rw [State.slot_modSlot_self, State.slot_setHolder, if_pos (.inl rfl)]
  have hlower : t.lowerPaired i = s.lowerPaired i := by
    simp only [State.lowerPaired, State.isPaired, State.mode, h.modes]
  refine ⟨fun j hj => ?_, fun q => ?_, fun q => ?_⟩
  · rw [hself, State.slot_modSlot_ne _ _ hj, State.slot_setHolder, hlower, h.others j hj]
    simp only [hj, false_or]
  · rw [State.setHolder_frame]
    exact h.modes q
  · rw [hself, State.setHolder_frame]
    exact h.counts q

/-! ## What the work of one slot leaves standing -/

section
variable {i : Fin 8} {s t : State} (h : State.WorksGiving i s t)
include h

theorem State.WorksGiving.useCountsMatch (hs : s.UseCountsMatch) : t.UseCountsMatch := by
  intro p
  have := h.counts p
  have := hs p
  have := State.contextsBoundTo_add (s := s) (t := t) (p := p) (i := i) fun j hj => by
    rw [h.others j hj]
    rfl
  omega

/-- The slot that takes the holder parks nothing. -/
theorem State.WorksGiving.parkedOnlyWhileHeld (hs : s.UpperStandsAside) (hp : ∀ j, (s.slot j).ParkedOnlyWhileHeld)
    (hi : (t.slot i).ParkedOnlyWhileHeld) (j : Fin 8) : (t.slot j).ParkedOnlyWhileHeld := by
  by_cases hj : j = i
  · exact hj ▸ hi
  rw [h.others j hj]
  split
  next hgiven =>
    obtain ⟨hl, rfl⟩ := hgiven
    obtain ⟨-, -, -, hnone, -⟩ := hs _ (State.pair_of_lowerPaired hl).2
    intro hsome
    rw [hnone] at hsome
    cases hsome
  next => exact hp j

variable (hu : s.upperPaired i = false)
include hu

/-- An upper slot that stands aside is another slot. -/
theorem State.WorksGiving.upper_ne {q : Fin 4} (hq : (t.pair q).mode ≠ .separate) :
    (s.pair q).mode ≠ .separate ∧ upperOf q ≠ i := by
  rw [h.modes] at hq
  refine ⟨hq, fun e => ?_⟩
  rw [← e, (s.upperPaired_upperOf q).mpr hq] at hu
  cases hu

theorem State.WorksGiving.upperStandsAside (hs : s.UpperStandsAside) : t.UpperStandsAside := by
  intro q hq
  obtain ⟨hq', hne⟩ := h.upper_ne hu hq
  obtain ⟨hholder, hrest⟩ := hs q hq'
  rw [h.others _ hne]
  refine ⟨?_, hrest⟩
  by_cases hi : lowerOf q = i
  · subst hi
    simp [State.lowerPaired_lowerOf hq']
  · have hnot : ¬ (s.lowerPaired i = true ∧ upperOf q = upperOf (pairOf i)) := by
      rintro ⟨hl, he⟩
      have hp : q = pairOf i := by simpa using congrArg pairOf he
      exact hi (hp ▸ (State.pair_of_lowerPaired hl).1)
    rw [h.others _ hi, if_neg hnot, if_neg fun e => lowerOf_ne_upperOf _ _ e.2]
    exact hholder

theorem State.WorksGiving.upperCheckersAtStart (hs : s.UpperCheckersAtStart) : t.UpperCheckersAtStart := by
  intro q hq
  obtain ⟨hq', hne⟩ := h.upper_ne hu hq
  rw [h.others _ hne]
  exact hs q hq'

/-- The invariant stands after the work of a slot that does not stand aside, if what the slot parks it parks for the bench. -/
theorem State.Standing.worksGiving {a : Prop} (hs : s.Standing a) (hi : (t.slot i).ParkedOnlyWhileHeld) : t.Standing a :=
  ⟨h.useCountsMatch hs.counts, h.upperStandsAside hu hs.aside, h.parkedOnlyWhileHeld hs.aside hs.parked hi,
    fun ha => h.upperCheckersAtStart hu (hs.checkers ha)⟩

end

/-! ## What a step upholds -/

/-- The records of the store stand, and so does the invariant. -/
structure State.Upholds (s t : State) : Prop where
  records (p : Fin 16) : (t.profile p).record = (s.profile p).record
  stands {a : Prop} : s.Standing a → t.Standing a

theorem State.Upholds.refl (s : State) : s.Upholds s := ⟨fun _ => rfl, id⟩

theorem State.Upholds.trans {s u t : State} (h : s.Upholds u) (h' : u.Upholds t) : s.Upholds t :=
  ⟨fun p => (h'.records p).trans (h.records p), fun hs => h'.stands (h.stands hs)⟩

/-- The work of a slot that does not stand aside, its holder kept, upholds the invariant. -/
theorem State.Standing.rebinds {a : Prop} {i : Fin 8} {s t : State} (hs : s.Standing a) (hu : s.upperPaired i = false)
    (h : State.Rebinds i s t) (hholder : (t.slot i).holder = (s.slot i).holder)
    (hi : (t.slot i).ParkedOnlyWhileHeld) : t.Standing a :=
  hs.worksGiving (h.worksGiving hs.aside hholder) hu hi

section
variable {i : Fin 8} {s t : State} (h : State.OwnWork i s t)
include h

/-- A slot's own work, where it is not draining to RESTORE and does not stand aside. -/
theorem State.OwnWork.upholds (hu : ∀ a, s.Standing a → s.upperPaired i = false)
    (hd : ¬ ((s.slot i).active.state = .drain ∧ (s.slot i).active.drainNext = some .restore)) : s.Upholds t :=
  ⟨fun p => by rw [h.profiles], fun hs => hs.rebinds (hu _ hs) h.rebinds h.holder
    ((hs.parked i).keep h.holder h.parked hd)⟩

/-- The own work of a slot that is in a run, in MANUAL or FAULTED. -/
theorem State.OwnWork.upholds_of_busy (hs : (s.slot i).active.state ≠ .idle ∧ (s.slot i).active.state ≠ .drain) :
    s.Upholds t :=
  h.upholds (fun _ hst => hst.not_aside (.inl hs.1)) fun e => hs.2 e.1

/-- Own work that does not move the slot's context on. -/
theorem State.OwnWork.upholds_of_still (hu : s.upperPaired i = false)
    (hstate : (t.slot i).active.state = (s.slot i).active.state)
    (hnext : (t.slot i).active.drainNext = (s.slot i).active.drainNext) : s.Upholds t := by
  refine ⟨fun p => by rw [h.profiles], fun hs => hs.rebinds hu h.rebinds h.holder fun hp => ?_⟩
  rw [h.parked] at hp
  rw [h.holder, hstate, hnext]
  exact hs.parked i hp

end

/-! ## Changes that the invariant does not see -/

/-- What the invariant reads of a slot is as it was; a hold timer that is stopped stays so. -/
structure Slot.Alike (sl sl' : Slot) : Prop where
  holder : sl'.holder = sl.holder
  parked : sl'.parked = sl.parked
  bound : sl'.active.bound = sl.active.bound
  state : sl'.active.state = sl.active.state
  next : sl'.active.drainNext = sl.active.drainNext
  checker : sl'.active.checker = sl.active.checker
  stopped : sl.holdTimer = none → sl'.holdTimer = none

theorem Slot.Alike.refl (sl : Slot) : sl.Alike sl := ⟨rfl, rfl, rfl, rfl, rfl, rfl, id⟩

theorem Slot.alike_of_active {sl sl' : Slot} (ha : sl'.active = sl.active) (hp : sl'.parked = sl.parked)
    (hh : sl'.holder = sl.holder) (ht : sl'.holdTimer = sl.holdTimer) : sl.Alike sl' :=
  ⟨hh, hp, by rw [ha], by rw [ha], by rw [ha], by rw [ha], fun h => ht.trans h⟩

theorem State.upholds_of_alike {s t : State} (h : ∀ i, (s.slot i).Alike (t.slot i))
    (hmodes : ∀ q, (t.pair q).mode = (s.pair q).mode) (hprofiles : ∀ p, t.profile p = s.profile p) : s.Upholds t := by
  refine ⟨fun p => by rw [hprofiles], fun hs => ⟨fun p => ?_, fun q hq => ?_, fun i hp => ?_, fun ha q hq => ?_⟩⟩
  · rw [hprofiles, hs.counts p, State.contextsBoundTo_eq_sum, State.contextsBoundTo_eq_sum]
    exact Finset.sum_congr rfl fun i _ => (Slot.boundTo_congr (h i).bound (h i).parked p).symm
  · rw [hmodes] at hq
    obtain ⟨hholder, hstate, hbound, hparked, htimer⟩ := hs.aside q hq
    have hy := h (upperOf q)
    exact ⟨by rw [hy.holder, hholder, (h (lowerOf q)).holder], hy.state.trans hstate, hy.bound.trans hbound,
      hy.parked.trans hparked, hy.stopped htimer⟩
  · rw [(h i).parked] at hp
    rw [(h i).holder, (h i).state, (h i).next]
    exact hs.parked i hp
  · rw [hmodes] at hq
    exact (h _).checker.trans (hs.checkers ha q hq)

/-- Nothing but channels, settings, faults and ports has changed. -/
theorem State.upholds_of_same {s t : State} (hslots : t.slots = s.slots) (hpairs : t.pairs = s.pairs)
    (hprofiles : t.profiles = s.profiles) : s.Upholds t :=
  State.upholds_of_alike (fun i => by simp only [State.slot, hslots]; exact .refl _)
    (fun q => by simp only [State.pair, hpairs]) fun p => by simp only [State.profile, hprofiles]

theorem State.OnlyWires.upholds {s t : State} (h : s.OnlyWires t) : s.Upholds t := by
  rw [h]
  exact State.upholds_of_same rfl rfl rfl

theorem State.upholds_modSlot_alike {s : State} {i : Fin 8} {f : Slot → Slot} (h : (s.slot i).Alike (f (s.slot i))) :
    s.Upholds (s.modSlot i f) := by
  refine State.upholds_of_alike (fun j => ?_) (fun _ => rfl) fun _ => rfl
  rw [State.slot_modSlot]
  split
  next e => exact e ▸ h
  next => exact .refl _

end Sys2Proof.Machine
end

section
/-!
SUPPORT. What the slot engine, the samples, the holds and the pairs do to the holds and the use counts: which operations are
a slot's own work (`State.OwnWork`), which move bindings, and what upholds the invariant (`State.Upholds`).
-/

namespace Sys2Proof.Machine

/-! ## The slot engine's own work -/

theorem State.ownWork_modSlot {s : State} {i : Fin 8} {f : Slot → Slot}
    (hholder : (f (s.slot i)).holder = (s.slot i).holder) (hparked : (f (s.slot i)).parked = (s.slot i).parked)
    (hbound : (f (s.slot i)).active.bound = (s.slot i).active.bound) : State.OwnWork i s (s.modSlot i f) := by
  refine ⟨fun j hj => s.slot_modSlot_ne f hj, fun _ => rfl, fun _ => rfl, ?_, ?_, ?_⟩ <;>
    rw [State.slot_modSlot_self] <;> assumption

theorem State.ownWork_enter (s : State) (i : Fin 8) (st : SlotState) (timer : Option Timer) (next : Option DrainNext) :
    State.OwnWork i s (s.modSlot i fun sl => sl.enter st timer next) := State.ownWork_modSlot rfl rfl rfl

theorem State.ownWork_channels (i : Fin 8) {s t : State} (h : t = { s with channels := t.channels }) :
    State.OwnWork i s t := by
  rw [h]
  exact ⟨fun _ _ => rfl, fun _ => rfl, fun _ => rfl, rfl, rfl, rfl⟩

theorem State.ownWork_clearTrips (s : State) (i : Fin 8) : State.OwnWork i s (s.clearTrips i) :=
  State.ownWork_channels i (s.clearTrips_frame i)

/-- The rail requests of a pair are no part of its mode. -/
theorem State.ownWork_modRails (s : State) (i : Fin 8) (q : Fin 4) (rails : Option Rails) :
    State.OwnWork i s (s.modPair q fun p => { p with rails := rails }) := by
  refine ⟨fun _ _ => rfl, fun r => ?_, fun _ => rfl, rfl, rfl, rfl⟩
  rw [State.pair_modPair]
  split
  next e => rw [e]
  next => rfl

theorem State.ownWork_clearRails (s : State) (i : Fin 8) : State.OwnWork i s (s.clearRails i) := s.ownWork_modRails ..

theorem State.ownWork_beginOnPhase (s : State) (i : Fin 8) : State.OwnWork i s (s.beginOnPhase i) :=
  (State.ownWork_modSlot rfl rfl rfl).trans (State.ownWork_clearTrips ..)

theorem State.ownWork_enterRest (s : State) (i : Fin 8) : State.OwnWork i s (s.enterRest i) := by
  unfold State.enterRest
  dsimp only
  split
  · exact s.ownWork_beginOnPhase i
  · exact s.ownWork_enter ..

theorem State.ownWork_resumeRun (s : State) (i : Fin 8) (hold : Bool) : State.OwnWork i s (s.resumeRun i hold) := by
  unfold State.resumeRun
  split
  · exact s.ownWork_enter ..
  split
  · exact s.ownWork_enter ..
  · exact s.ownWork_enterRest i

theorem State.ownWork_enterOffPhase (s : State) (i : Fin 8) : State.OwnWork i s (s.enterOffPhase i) := by
  rw [State.enterOffPhase_eq]
  split
  · exact s.ownWork_enter ..
  · exact s.ownWork_resumeRun i false

theorem State.ownWork_abandonOnPhase (s : State) (i : Fin 8) (v : Verdict) :
    State.OwnWork i s (s.abandonOnPhase i v) :=
  State.ownWork_modSlot (by simp) (by simp) (by simp [Context.shiftSummary])

/-- A slot's summary and its risen D are its own. -/
theorem State.ownWork_countOnPhase (s : State) (i : Fin 8) (v : Verdict) : State.OwnWork i s (s.countOnPhase i v) := by
  obtain ⟨hbound, -, hparked⟩ := s.countedCycle_active i v
  have hholder : (s.countedCycle i v).holder = (s.slot i).holder := by simp [State.countedCycle]
  rw [State.countOnPhase_eq]
  exact (State.ownWork_modSlot (f := fun _ => s.countedCycle i v) hholder hparked hbound).trans
    (State.ownWork_enterOffPhase ..)

theorem State.ownWork_enterDrain (s : State) (i : Fin 8) (x : DrainNext) : State.OwnWork i s (s.enterDrain i x) :=
  s.ownWork_enter ..

theorem State.ownWork_continueDrain (s : State) (i : Fin 8) (x : DrainNext) :
    State.OwnWork i s (s.continueDrain i x) := State.ownWork_modSlot rfl rfl rfl

/-- An operation at a slot that is in a run, in MANUAL or FAULTED. -/
theorem State.upholds_of_state {s t : State} {i : Fin 8} {st : SlotState} (h : State.OwnWork i s t)
    (hs : (s.slot i).active.state = st) (hst : st ≠ .idle ∧ st ≠ .drain) : s.Upholds t :=
  h.upholds_of_busy (hs ▸ hst)

theorem State.upholds_pauseSlot (s : State) (i : Fin 8) : s.Upholds (s.pauseSlot i) := by
  unfold State.pauseSlot
  split
  next h => exact State.upholds_of_state ((s.ownWork_abandonOnPhase i _).trans (State.ownWork_enter ..)) h (by decide)
  next h => exact State.upholds_of_state (s.ownWork_enter ..) h (by decide)
  next h => exact State.upholds_of_state (s.ownWork_enter ..) h (by decide)
  next h => exact State.upholds_of_state ((s.ownWork_enter ..).trans (State.ownWork_clearRails ..)) h (by decide)
  all_goals exact .refl s

theorem State.upholds_resumeSlot (s : State) (i : Fin 8) : s.Upholds (s.resumeSlot i) := by
  rw [State.resumeSlot_eq]
  split
  next h => exact State.upholds_of_state (s.ownWork_resumeRun i false) h (by decide)
  next => exact .refl s

theorem Slot.failed_holder (sl : Slot) (r : ProfileRecord) (current : Nat) (cause : Cause) :
    (sl.failed r current cause).holder = sl.holder := by
  simp [Slot.failed]

theorem State.upholds_onTimeExpiry (s : State) (i : Fin 8) : s.Upholds (s.onTimeExpiry i) := by
  unfold State.onTimeExpiry
  dsimp only
  split
  next h =>
    refine State.upholds_of_state (State.OwnWork.trans ?_ (State.ownWork_countOnPhase ..)) h (by decide)
    refine State.ownWork_modSlot ?_ ?_ ?_ <;> rw [Slot.closeWalk_eq] <;> split <;>
      simp [Slot.failed_active, Slot.failed_holder]
  next => exact .refl s

theorem State.upholds_bleedExpiry (s : State) (i : Fin 8) : s.Upholds (s.bleedExpiry i) := by
  rw [State.bleedExpiry_eq]
  split
  next h => exact State.upholds_of_state (s.ownWork_resumeRun i false) h (by decide)
  next => exact .refl s

theorem State.upholds_restExpiry (s : State) (i : Fin 8) : s.Upholds (s.restExpiry i) := by
  unfold State.restExpiry
  split
  next h => exact State.upholds_of_state (s.ownWork_beginOnPhase i) h (by decide)
  next => exact .refl s

theorem State.upholds_endOfLead (s : State) (i : Fin 8) : s.Upholds (s.endOfLead i) := by
  unfold State.endOfLead
  split
  next h => exact State.upholds_of_state (State.ownWork_modSlot rfl rfl rfl) h.1 (by decide)
  next => exact .refl s

/-! ## Samples -/

theorem State.ownWork_trip (s : State) (i : Fin 8) (t : TripCheck) : State.OwnWork i s (s.trip i t) := by
  have hnoted : State.OwnWork i s ((s.recordTrip i t).clearTrips i) :=
    (State.ownWork_modSlot (by simp) (by simp) (by simp)).trans (State.ownWork_clearTrips ..)
  unfold State.trip
  dsimp only
  refine State.OwnWork.trans (State.OwnWork.trans ?_ (State.ownWork_enterDrain _ i .faulted))
    (State.ownWork_clearRails ..)
  split
  · exact hnoted.trans (State.ownWork_abandonOnPhase ..)
  · exact hnoted

theorem State.ownWork_applyOnFail (s : State) (i : Fin 8) : State.OwnWork i s (s.applyOnFail i) := by
  unfold State.applyOnFail
  split
  · exact .refl i s
  · exact s.ownWork_countOnPhase i _
  · exact (s.ownWork_abandonOnPhase i _).trans (State.ownWork_enterDrain ..)

theorem State.countedSlot_holder (s : State) (i : Fin 8) : (s.countedSlot i).holder = (s.slot i).holder := by
  unfold State.countedSlot Slot.counted
  dsimp only
  rw [apply_ite Slot.holder]
  simp

theorem State.ownWork_countedSample (s : State) (i : Fin 8) : State.OwnWork i s (s.countedSample i) := by
  obtain ⟨-, hbound, -, hparked⟩ := s.countedSlot_kept i
  have hholder := s.countedSlot_holder i
  cases hout : (s.checkerOut i).2 with
  | none =>
    rw [State.countedSample_of_pass hout]
    exact State.ownWork_modSlot hholder hparked hbound
  | some cause =>
    rw [State.countedSample_of_fail hout]
    refine State.OwnWork.trans (State.ownWork_modSlot ?_ ?_ ?_) (State.ownWork_applyOnFail _ i)
    · rw [Slot.failed_holder, hholder]
    · rw [Slot.failed_parked, hparked]
    · rw [Slot.failed_active, hbound]

theorem State.upholds_sampleAtSlot (s : State) (i : Fin 8) : s.Upholds (s.sampleAtSlot i) := by
  by_cases hs : (s.slot i).active.state = .runOn ∨ (s.slot i).active.state = .manual
  · have hbusy : (s.slot i).active.state ≠ .idle ∧ (s.slot i).active.state ≠ .drain := by
      rcases hs with h | h <;> rw [h] <;> decide
    have hcounted : State.OwnWork i s (s.countTrips (s.tripChecks i)) := by
      have hruns := s.runsAt_countTrips i (s.tripChecks i)
      refine ⟨fun _ _ => by simp, fun q => by rw [hruns.pair], hruns.profile, ?_, ?_, ?_⟩ <;> simp
    refine State.OwnWork.upholds_of_busy (i := i) ?_ hbusy
    rw [State.sampleAtSlot_of_fed hs]
    dsimp only
    split
    · exact hcounted.trans (State.ownWork_trip ..)
    split
    · exact hcounted.trans (State.ownWork_modSlot rfl rfl rfl)
    split
    · exact hcounted
    · exact hcounted.trans (State.ownWork_countedSample ..)
  · rw [State.sampleAtSlot_of_unfed (fun e => hs (.inl e)) fun e => hs (.inr e)]
    exact .refl s

theorem State.upholds_modChannel (s : State) (c : Fin 8) (f : Channel → Channel) : s.Upholds (s.modChannel c f) :=
  State.upholds_of_same rfl rfl rfl

theorem State.upholds_sampleArrival (s : State) (ch : Fin 8) (code : SenseCode) : s.Upholds (s.sampleArrival ch code) := by
  unfold State.sampleArrival
  split
  · exact .refl s
  · exact (s.upholds_modChannel ..).trans (State.upholds_sampleAtSlot ..)

theorem State.upholds_pairSample (s : State) (pr : Fin 4) (x y : SenseCode) : s.Upholds (s.pairSample pr x y) := by
  unfold State.pairSample
  split
  · exact ((s.upholds_modChannel ..).trans (State.upholds_modChannel ..)).trans (State.upholds_sampleAtSlot ..)
  · exact .refl s

/-! ## Bindings -/

/-- The bindings of a slot with a new active context. -/
theorem Slot.boundTo_withActive (sl : Slot) (c : Context) (p : Fin 16) :
    ({ sl with active := c } : Slot).boundTo p + (if sl.active.bound = some p then 1 else 0)
      = sl.boundTo p + (if c.bound = some p then 1 else 0) := by
  unfold Slot.boundTo
  dsimp only
  omega

/-- A binding given up is one that its profile's use count counts. -/
theorem State.rebinds_releaseBinding {s : State} (h : s.UseCountsMatch) (i : Fin 8) :
    State.Rebinds i s (s.releaseBinding i) := by
  have hw := s.worksAt_releaseBinding i
  refine ⟨hw.1, fun q => by rw [State.releaseBinding_frame]; rfl, fun p => ?_⟩
  have hle := h.boundTo_le i p
  have hsum := (s.slot i).boundTo_withActive { (s.slot i).active with bound := none } p
  rw [s.profile_releaseBinding i p, State.slot_releaseBinding, if_pos rfl]
  by_cases hb : (s.slot i).active.bound = some p <;> simp [hb] at hsum ⊢ <;> omega

/-- An unbound slot takes a binding, which the use count of its profile counts. -/
theorem State.rebinds_bind {s : State} {i : Fin 8} (hb : (s.slot i).active.bound = none) (p : Fin 16) :
    State.Rebinds i s
      ((s.modProfile p fun pr => { pr with useCount := pr.useCount + 1 }).modSlot i
        fun sl => { sl with active := { sl.active with bound := some p } }) := by
  refine ⟨fun j hj => State.slot_modSlot_ne _ _ hj, fun _ => rfl, fun q => ?_⟩
  have hsum := (s.slot i).boundTo_withActive { (s.slot i).active with bound := some p } q
  rw [State.slot_modSlot_self, State.profile_modSlot, State.profile_modProfile, State.slot_modProfile]
  by_cases hq : q = p
  · subst hq
    simp [hb] at hsum ⊢
    omega
  · simp [hb, hq, Ne.symm hq] at hsum ⊢
    omega

theorem State.rebinds_bindTo {s : State} (h : s.UseCountsMatch) (i : Fin 8) (p : Fin 16) :
    State.Rebinds i s (s.bindTo i p) := by
  unfold State.bindTo
  split
  · exact .refl i s
  · refine (State.rebinds_releaseBinding h i).trans (State.rebinds_bind ?_ p)
    rw [State.slot_releaseBinding, if_pos rfl]

/-- Where the slot's binding is given up first, an unbound context in its place uses no profile. -/
theorem State.rebinds_replaceActive {s : State} (h : s.UseCountsMatch) (i : Fin 8) {f : Slot → Slot}
    (hb : (f ((s.releaseBinding i).slot i)).active.bound = none)
    (hp : (f ((s.releaseBinding i).slot i)).parked = (s.slot i).parked) :
    State.Rebinds i s ((s.releaseBinding i).modSlot i f) := by
  have hslot : (s.releaseBinding i).slot i = _ := (s.slot_releaseBinding i i).trans (if_pos rfl)
  refine (State.rebinds_releaseBinding h i).trans ⟨fun j hj => State.slot_modSlot_ne _ _ hj, fun _ => rfl, fun p => ?_⟩
  rw [State.slot_modSlot_self, State.profile_modSlot]
  refine congrArg _ (Slot.boundTo_congr ?_ ?_ p).symm
  · rw [hb, hslot]
  · rw [hp, hslot]

/-! ## Restoring -/

theorem State.ownWork_settleRestored (s : State) (i : Fin 8) : State.OwnWork i s (s.settleRestored i) := by
  rw [State.settleRestored_eq]
  split
  · exact s.ownWork_enter ..
  iterate 4 exact s.ownWork_resumeRun i _
  all_goals exact s.ownWork_enter ..

/-- A restored context brings its binding with it. -/
theorem State.rebinds_restore {s : State} (h : s.UseCountsMatch) (i : Fin 8) : State.Rebinds i s (s.restore i) := by
  have hslot : (s.releaseBinding i).slot i = _ := (s.slot_releaseBinding i i).trans (if_pos rfl)
  unfold State.restore
  dsimp only
  split
  · exact State.rebinds_replaceActive h i rfl (by rw [hslot])
  next c hc =>
    refine ((State.rebinds_releaseBinding h i).trans ?_).trans (State.ownWork_settleRestored _ i).rebinds
    refine ⟨fun j hj => State.slot_modSlot_ne _ _ hj, fun _ => rfl, fun p => ?_⟩
    rw [State.slot_modSlot_self, State.profile_modSlot, Slot.boundTo_of_unbound (by rw [hslot]) hc]
    exact congrArg _ (Slot.boundTo_of_unparked (sl := { (s.releaseBinding i).slot i with active := c, parked := none })
      rfl p).symm

theorem State.restore_kept (s : State) (i : Fin 8) :
    ((s.restore i).slot i).parked = none ∧ ((s.restore i).slot i).holder = (s.slot i).holder := by
  have hslot : (s.releaseBinding i).slot i = _ := (s.slot_releaseBinding i i).trans (if_pos rfl)
  unfold State.restore
  dsimp only
  split
  next hc =>
    rw [State.slot_modSlot_self]
    exact ⟨hc, by rw [hslot]⟩
  next c hc =>
    have hown := State.ownWork_settleRestored
      ((s.releaseBinding i).modSlot i fun sl => { sl with active := c, parked := none }) i
    rw [hown.parked, hown.holder, State.slot_modSlot_self, hslot]
    exact ⟨rfl, rfl⟩

theorem State.upholds_drainCompletion (s : State) (i : Fin 8) : s.Upholds (s.drainCompletion i) := by
  have hnot {x : Option DrainNext} (hs : (s.slot i).active.state = .drain) (hx : (s.slot i).active.drainNext = x)
      (hne : x ≠ some .restore) (st : SlotState) : s.Upholds (s.modSlot i fun sl => sl.enter st none) :=
    (s.ownWork_enter i st none none).upholds (fun _ h => h.not_aside (.inl (by rw [hs]; decide)))
      fun e => hne (hx ▸ e.2)
  unfold State.drainCompletion
  split
  next hs =>
    split
    next hx => exact hnot hs hx (by decide) _
    next hx =>
      refine ⟨(s.moves_restore i).records, fun h => ?_⟩
      obtain ⟨hparked, hholder⟩ := s.restore_kept i
      refine h.rebinds (h.not_aside (.inl (by rw [hs]; decide))) (State.rebinds_restore h.counts i) hholder fun hp => ?_
      rw [hparked] at hp
      cases hp
    next hx => exact hnot hs hx (by decide) _
    next hx => exact hnot hs hx (by decide) _
  next => exact .refl s

end Sys2Proof.Machine
end

section
/-!
PROOFS. What every command, event and step does to the store and the holds (`State.Turns`); from it, that use counts and holds
are kept (O7) and that a bound profile keeps its record (O16).
-/

namespace Sys2Proof.Machine

/-! ## Acceptance -/

theorem State.upholds_restartHold (s : State) (p : Party) (i : Fin 8) : s.Upholds (s.restartHold p i) := by
  unfold State.restartHold
  split
  · refine State.OwnWork.upholds_of_still (State.ownWork_modSlot rfl rfl rfl) (s.upperPaired_governor i) ?_ ?_ <;>
      rw [State.slot_modSlot_self]
  · exact .refl s

/-- A command at a slot that does not stand aside. -/
theorem State.upholds_onHeldSlot {act : Fin 8 → State → State × Reply}
    (h : ∀ (i : Fin 8) (u : State), u.upperPaired i = false → u.Upholds (act i u).1) (s : State) (p : Party)
    (target : Nibble) : s.Upholds (s.onHeldSlot p target act).1 := by
  rcases s.onHeldSlot_cases p target act with ⟨-, e⟩ | ⟨i, -, ⟨-, e⟩ | ⟨-, -, e⟩ | ⟨hu, -, e⟩⟩ <;> rw [e]
  · exact .refl s
  · exact .refl s
  · exact .refl s
  · refine (s.upholds_restartHold p i).trans (h i _ ?_)
    rw [s.restartHold_frame p i]
    exact hu

theorem State.upholds_onAnySlot (s : State) (p : Party) (target : Nibble) (report : Fin 8 → State → Reply) :
    s.Upholds (s.onAnySlot p target report).1 := by
  unfold State.onAnySlot
  split
  · exact .refl s
  · exact s.upholds_restartHold p _

theorem State.upholds_partWide {act : State → State × Reply} (h : ∀ u : State, u.Upholds (act u).1) (s : State)
    (p : Party) : s.Upholds (s.partWide p act).1 := by
  rcases s.partWide_cases p act with ⟨-, e⟩ | ⟨-, -, e⟩ | ⟨-, -, -, e⟩ <;> rw [e]
  · exact .refl s
  · exact .refl s
  · exact h s

theorem State.Upholds.reply {s t : State} (h : s.Upholds t) (st : Status) : s.Upholds (t.reply st).1 := h

/-! ## The slot commands -/

/-- A slot's own work in a state other than DRAIN, where the slot does not stand aside. -/
theorem State.upholds_of_undrained {s t : State} {i : Fin 8} {st : SlotState} (h : State.OwnWork i s t)
    (hu : s.upperPaired i = false) (hs : (s.slot i).active.state = st) (hst : st ≠ .drain) : s.Upholds t :=
  h.upholds (fun _ _ => hu) fun e => hst (hs ▸ e.1)

theorem State.upholds_bindTo {s : State} {i : Fin 8} {p : Fin 16} (hu : s.upperPaired i = false)
    (hs : (s.slot i).active.state = .idle) (hp : (s.profile p).record.isEmpty = false) : s.Upholds (s.bindTo i p) := by
  refine ⟨(State.moves_bindTo hs hp).records, fun h => ?_⟩
  have hslot := s.slot_bindTo i p
  refine h.rebinds hu (State.rebinds_bindTo h.counts i p) (by rw [hslot]) ?_
  rw [hslot]
  exact h.parked i

theorem upholds_cmdBind (p : Party) (target arg : Nibble) (s : State) : s.Upholds (cmdBind p target arg s).1 := by
  refine State.upholds_onHeldSlot (fun i u hu => ?_) s p target
  split
  · exact .refl u
  split
  · exact .refl u
  next hs he =>
    exact State.upholds_bindTo hu (not_not.mp hs) (Bool.eq_false_iff.mpr he)

theorem State.upholds_releaseBinding {s : State} {i : Fin 8} (hu : s.upperPaired i = false) :
    s.Upholds (s.releaseBinding i) := by
  refine ⟨s.record_releaseBinding i, fun h => ?_⟩
  have hslot : (s.releaseBinding i).slot i = _ := (s.slot_releaseBinding i i).trans (if_pos rfl)
  refine h.rebinds hu (State.rebinds_releaseBinding h.counts i) (by rw [hslot]) ?_
  rw [hslot]
  exact h.parked i

theorem upholds_cmdUnbind (p : Party) (target arg : Nibble) (s : State) : s.Upholds (cmdUnbind p target arg s).1 := by
  refine State.upholds_onHeldSlot (fun i u hu => ?_) s p target
  split
  · exact State.upholds_releaseBinding hu
  · exact State.upholds_releaseBinding hu
  · exact .refl u

theorem upholds_cmdStart (p : Party) (target arg : Nibble) (s : State) : s.Upholds (cmdStart p target arg s).1 := by
  refine State.upholds_onHeldSlot (fun i u hu => ?_) s p target
  dsimp only
  split
  · exact .refl u
  split
  · exact .refl u
  split
  · exact .refl u
  split
  · exact .refl u
  next hs _ _ =>
    exact State.upholds_of_undrained ((State.ownWork_modSlot rfl rfl rfl).trans (State.ownWork_beginOnPhase ..)) hu
      (not_not.mp hs) (by decide)

theorem upholds_cmdStop (p : Party) (target arg : Nibble) (s : State) : s.Upholds (cmdStop p target arg s).1 := by
  refine State.upholds_onHeldSlot (fun i u _ => ?_) s p target
  split
  next h => exact State.upholds_of_state ((u.ownWork_abandonOnPhase i _).trans (State.ownWork_enterDrain ..)) h (by decide)
  next h => exact State.upholds_of_state (u.ownWork_continueDrain i _) h (by decide)
  next h => exact State.upholds_of_state (u.ownWork_enter ..) h (by decide)
  next h => exact State.upholds_of_state (u.ownWork_enter ..) h (by decide)
  next h => exact State.upholds_of_state ((u.ownWork_enterDrain i _).trans (State.ownWork_clearRails ..)) h (by decide)
  all_goals exact .refl u

theorem upholds_cmdAck (p : Party) (target arg : Nibble) (s : State) : s.Upholds (cmdAck p target arg s).1 := by
  refine State.upholds_onHeldSlot (fun i u _ => ?_) s p target
  split
  next h =>
    split
    · exact .refl u
    · exact State.upholds_of_state (u.ownWork_enter ..) h (by decide)
  all_goals exact .refl u

theorem State.ownWork_enterManual (s : State) (i : Fin 8) (rails : Option Rails) :
    State.OwnWork i s (s.enterManual i rails) :=
  ((State.ownWork_modSlot rfl rfl rfl).trans (State.ownWork_clearTrips ..)).trans (State.ownWork_modRails ..)

theorem upholds_driveSlot (form : DriveForm) {i : Fin 8} {s : State} (hu : s.upperPaired i = false) :
    s.Upholds (driveSlot form i s).1 := by
  unfold driveSlot
  split
  next h =>
    split
    · exact .refl s
    split
    · exact .refl s
    · exact State.upholds_of_undrained (s.ownWork_enterManual i _) hu h (by decide)
  next h => exact State.upholds_of_undrained (s.ownWork_enterDrain i _) hu h (by decide)
  next => exact .refl s
  next h => exact State.upholds_of_state (s.ownWork_modRails i _ _) h (by decide)
  next h => exact State.upholds_of_state ((s.ownWork_enterDrain i _).trans (State.ownWork_clearRails ..)) h (by decide)
  next h => exact State.upholds_of_state ((s.ownWork_enter ..).trans (State.ownWork_clearRails ..)) h (by decide)
  next => exact .refl s

theorem upholds_cmdDrive (p : Party) (target arg : Nibble) (op : Word) (s : State) :
    s.Upholds (cmdDrive p target arg op s).1 := by
  unfold cmdDrive
  repeat' split
  · exact .refl s
  · exact .refl s
  · exact .refl s
  · exact State.upholds_onHeldSlot (fun _ _ hu => upholds_driveSlot _ hu) s p target

theorem upholds_cmdSetConv (p : Party) (target arg : Nibble) (op : Word) (s : State) :
    s.Upholds (cmdSetConv p target arg op s).1 := by
  refine State.upholds_onHeldSlot (fun i u hu => ?_) s p target
  exact (State.upholds_modSlot_alike ⟨rfl, rfl, rfl, rfl, rfl, rfl, id⟩).reply _

theorem upholds_cmdSlotInit (p : Party) (target arg : Nibble) (s : State) :
    s.Upholds (cmdSlotInit p target arg s).1 := by
  have hinit {i : Fin 8} {u : State} {st : SlotState} (hu : u.upperPaired i = false)
      (hs : (u.slot i).active.state = st) (hst : st ≠ .drain) :
      u.Upholds ((u.releaseBinding i).modSlot i Slot.initialise) := by
    refine ⟨fun q => by simp, fun h => ?_⟩
    have hslot := u.slot_slotInit i
    refine h.rebinds hu (State.rebinds_replaceActive h.counts i rfl ?_) (by rw [hslot]; rfl) ?_
    · rw [State.slot_releaseBinding, if_pos rfl]
      rfl
    · rw [hslot]
      exact (h.parked i).keep rfl rfl fun e => hst (hs ▸ e.1)
  refine State.upholds_onHeldSlot (fun i u hu => ?_) s p target
  split
  next h => exact hinit hu h (by decide)
  next h => exact hinit hu h (by decide)
  next => exact .refl u

theorem upholds_cmdSummaryRead (p : Party) (target arg : Nibble) (s : State) :
    s.Upholds (cmdSummaryRead p target arg s).1 := by
  unfold cmdSummaryRead
  split
  · exact .refl s
  · exact s.upholds_onAnySlot ..

/-! ## Holds -/

theorem takeAllowed_not_drain {st : SlotState} {preempt : Bool} (h : takeAllowed st preempt = true) : st ≠ .drain := by
  rintro rfl
  cases h

/-- The rack's context, parked, keeps its binding, and the bench's new one has none. -/
theorem State.rebinds_handOver {s : State} {i : Fin 8} (h : (s.slot i).parked = none) (r : ProfileRecord) :
    State.Rebinds i s (s.modSlot i fun sl => sl.handOver r) := by
  refine ⟨fun j hj => State.slot_modSlot_ne _ _ hj, fun _ => rfl, fun p => ?_⟩
  rw [State.slot_modSlot_self, Slot.boundTo_of_unparked h,
    Slot.boundTo_of_unbound (sl := (s.slot i).handOver r) (freshContext_kept ..).2 rfl]
  rfl

theorem State.upholds_takeSlot {s : State} {i : Fin 8} (hu : s.upperPaired i = false)
    (hrack : (s.slot i).holder ≠ .bench) (hdrain : (s.slot i).active.state ≠ .drain) : s.Upholds (s.takeSlot i) := by
  refine ⟨(s.moves_takeSlot i).records, fun {a} h => ?_⟩
  have hnone : (s.slot i).parked = none := by
    rw [← Option.not_isSome_iff_eq_none]
    exact fun hp => (h.parked i hp).elim hrack fun e => hdrain e.1
  have hgiven {u : State} (hown : State.OwnWork i s u) (timer : Option Nat) :
      ((((u.modSlot i fun sl => sl.handOver (u.activeRecord i)).clearRails i).setHolder i .bench).modSlot i
        fun sl => { sl with holdTimer := timer }).Standing a := by
    have hr := (hown.rebinds.trans (State.rebinds_handOver (hown.parked.trans hnone) (u.activeRecord i))).trans
      (State.ownWork_clearRails _ i).rebinds
    refine h.worksGiving (hr.setHolder .bench timer) hu fun _ => .inl ?_
    rw [State.slot_modSlot_self, State.slot_setHolder, if_pos (.inl rfl)]
  unfold State.takeSlot
  dsimp only
  split
  · exact hgiven (s.ownWork_abandonOnPhase i _) _
  · exact hgiven (.refl i s) _

theorem upholds_cmdTake (p : Party) (target arg : Nibble) (s : State) : s.Upholds (cmdTake p target arg s).1 := by
  unfold cmdTake
  split
  · exact .refl s
  split
  · exact .refl s
  split
  · exact .refl s
  split
  · exact .refl s
  next hu =>
    split
    · exact s.upholds_restartHold p _
    next hrack =>
      split
      next ha =>
        exact State.upholds_takeSlot (Bool.eq_false_iff.mpr hu) hrack (takeAllowed_not_drain ha)
      next => exact .refl s

theorem State.rebinds_drainToRestore {s : State} (h : s.UseCountsMatch) (i : Fin 8) (timer : Option Timer) :
    State.Rebinds i s (s.drainToRestore i timer) := by
  refine State.rebinds_replaceActive h i rfl ?_
  rw [State.slot_releaseBinding, if_pos rfl]

/-- The bench's context ended, the slot parks nothing or drains to RESTORE (R154, R155). -/
theorem State.endBenchContext_parks {s : State} (h : s.UseCountsMatch) (i : Fin 8) :
    State.Rebinds i s (s.endBenchContext i)
      ∧ (((s.endBenchContext i).slot i).parked = none
        ∨ (((s.endBenchContext i).slot i).active.state = .drain
          ∧ ((s.endBenchContext i).slot i).active.drainNext = some .restore)) := by
  have hdrains (u : State) (timer : Option Timer) : ((u.drainToRestore i timer).slot i).active.state = .drain
      ∧ ((u.drainToRestore i timer).slot i).active.drainNext = some .restore := by
    rw [State.drainToRestore, State.slot_modSlot_self]
    exact ⟨rfl, rfl⟩
  have hrestore := State.rebinds_restore h i
  have hnone := (s.restore_kept i).1
  unfold State.endBenchContext
  dsimp only
  split
  · have hown := s.ownWork_abandonOnPhase i .abort
    exact ⟨hown.rebinds.trans (State.rebinds_drainToRestore (hown.rebinds.useCountsMatch h) i _), .inr (hdrains _ _)⟩
  · exact ⟨(State.rebinds_drainToRestore h i _).trans (State.ownWork_clearRails _ i).rebinds, .inr (hdrains _ _)⟩
  · exact ⟨State.rebinds_drainToRestore h i _, .inr (hdrains _ _)⟩
  · exact ⟨State.rebinds_drainToRestore h i _, .inr (hdrains _ _)⟩
  all_goals exact ⟨hrestore, .inl hnone⟩

theorem State.upholds_endBenchHold {s : State} {i : Fin 8} (hu : ∀ a, s.Standing a → s.upperPaired i = false) :
    s.Upholds (s.endBenchHold i) := by
  refine ⟨(s.moves_endBenchHold i).records, fun h => ?_⟩
  obtain ⟨hr, hparks⟩ := State.endBenchContext_parks h.counts i
  refine h.worksGiving (hr.setHolder .rack none) (hu _ h) fun hp => .inr ?_
  rw [State.slot_modSlot_self, State.slot_setHolder] at hp ⊢
  refine hparks.resolve_left fun hnone => ?_
  rw [hnone] at hp
  cases hp

theorem State.upholds_holdExpiry (s : State) (i : Fin 8) : s.Upholds (s.holdExpiry i) := by
  unfold State.holdExpiry
  split
  next hx =>
    refine (State.upholds_endBenchHold fun _ h => h.not_aside (.inr hx.2)).trans ?_
    exact State.upholds_modSlot_alike (Slot.alike_of_active rfl rfl rfl rfl)
  next => exact .refl s

theorem upholds_cmdRelease (p : Party) (target arg : Nibble) (s : State) : s.Upholds (cmdRelease p target arg s).1 := by
  unfold cmdRelease
  split
  · exact .refl s
  split
  · exact .refl s
  split
  · exact .refl s
  next hu =>
    split
    · exact .refl s
    · exact (State.upholds_endBenchHold fun _ _ => Bool.eq_false_iff.mpr hu).reply _

theorem upholds_cmdHoldTime (p : Party) (target arg : Nibble) (op : Word) (s : State) :
    s.Upholds (cmdHoldTime p target arg op s).1 := by
  unfold cmdHoldTime
  repeat' split
  · exact .refl s
  · exact .refl s
  all_goals exact State.upholds_of_same rfl rfl rfl

/-! ## Pairs -/

theorem upperOf_injective : Function.Injective upperOf := by decide

/-- A slot whose active context is unbound. -/
def Slot.unbound (sl : Slot) : Slot := { sl with active := { sl.active with bound := none } }

section
variable (s : State) (pr : Fin 4) (mode : PairMode)

/-- A PAIR unbinds the upper slot and sets the mode, besides what it does to channels; the upper slot of a paired pair then
stands aside (R135, R137). -/
theorem State.setPair_split :
    ∃ u : State,
      u = { (s.releaseBinding (upperOf pr)).modPair pr fun _ => { mode := mode, rails := none } with
            channels := u.channels }
      ∧ s.setPair pr mode =
          if mode = .separate then u
          else u.modSlot (upperOf pr) fun sl => sl.standAside (u.slot (lowerOf pr)).holder := by
  refine ⟨_, ?_, rfl⟩
  split <;> rfl

theorem State.slot_setPair_ne {j : Fin 8} (hj : j ≠ upperOf pr) : (s.setPair pr mode).slot j = s.slot j := by
  obtain ⟨u, hu, e⟩ := s.setPair_split pr mode
  have hslot : u.slot j = s.slot j := by
    rw [hu]
    exact (s.slot_releaseBinding ..).trans (if_neg hj)
  rw [e]
  split
  · exact hslot
  · rw [State.slot_modSlot_ne _ _ hj, hslot]

theorem State.slot_setPair_upper :
    (s.setPair pr mode).slot (upperOf pr) =
      if mode = .separate then (s.slot (upperOf pr)).unbound
      else (s.slot (upperOf pr)).unbound.standAside (s.slot (lowerOf pr)).holder := by
  obtain ⟨u, hu, e⟩ := s.setPair_split pr mode
  have hupper : u.slot (upperOf pr) = (s.slot (upperOf pr)).unbound := by
    rw [hu]
    exact (s.slot_releaseBinding ..).trans (if_pos rfl)
  have hlower : u.slot (lowerOf pr) = s.slot (lowerOf pr) := by
    rw [hu]
    exact (s.slot_releaseBinding ..).trans (if_neg (lowerOf_ne_upperOf _ _))
  rw [e]
  split
  · exact hupper
  · rw [State.slot_modSlot_self, hupper, hlower]

theorem State.mode_setPair (q : Fin 4) :
    ((s.setPair pr mode).pair q).mode = if q = pr then mode else (s.pair q).mode := by
  obtain ⟨u, hu, e⟩ := s.setPair_split pr mode
  have hpair : (s.setPair pr mode).pair q = u.pair q := by
    rw [e]
    split <;> rfl
  have hrelease : (s.releaseBinding (upperOf pr)).pair q = s.pair q := by
    rw [State.releaseBinding_frame]
    rfl
  have hu' : u.pair q = ((s.releaseBinding (upperOf pr)).modPair pr fun _ => { mode := mode, rails := none }).pair q := by
    rw [hu]
    rfl
  rw [hpair, hu', State.pair_modPair, hrelease]
  split <;> rfl

theorem State.profile_setPair (q : Fin 16) :
    (s.setPair pr mode).profile q = (s.releaseBinding (upperOf pr)).profile q := by
  obtain ⟨u, hu, e⟩ := s.setPair_split pr mode
  have hu' : u.profile q = (s.releaseBinding (upperOf pr)).profile q := by
    rw [hu]
    rfl
  rw [e]
  split
  · exact hu'
  · exact hu'

/-- Of the bindings, a PAIR takes the upper slot's alone. -/
theorem State.boundTo_setPair (j : Fin 8) (q : Fin 16) :
    ((s.setPair pr mode).slot j).boundTo q = ((s.releaseBinding (upperOf pr)).slot j).boundTo q := by
  rw [State.slot_releaseBinding]
  split
  next e =>
    subst e
    rw [State.slot_setPair_upper]
    split <;> rfl
  next hj => rw [State.slot_setPair_ne _ _ _ hj]

end

/-- After a PAIR into GANG or DUAL the upper slot, at rest and with nothing parked, stands aside. -/
theorem State.slot_setPair_aside {s : State} {pr : Fin 4} {mode : PairMode} (hm : mode ≠ .separate)
    (hidle : (s.slot (upperOf pr)).active.state = .idle) (hnone : (s.slot (upperOf pr)).parked = none) :
    let sl := (s.setPair pr mode).slot (upperOf pr)
    sl.holder = ((s.setPair pr mode).slot (lowerOf pr)).holder ∧ sl.active.state = .idle ∧ sl.active.bound = none
      ∧ sl.parked = none ∧ sl.holdTimer = none ∧ sl.active.checker = Checker.initial := by
  dsimp only
  rw [State.slot_setPair_upper, if_neg hm, State.slot_setPair_ne _ _ _ (lowerOf_ne_upperOf _ _)]
  exact ⟨rfl, hidle, rfl, hnone, rfl, rfl⟩

theorem State.upholds_setPair {s : State} {pr : Fin 4} (mode : PairMode)
    (hidle : (s.slot (upperOf pr)).active.state = .idle) (hnone : (s.slot (upperOf pr)).parked = none) :
    s.Upholds (s.setPair pr mode) := by
  refine ⟨(State.moves_setPair mode hidle).records,
    fun h => ⟨fun p => ?_, fun q hq => ?_, fun j hp => ?_, fun ha q hq => ?_⟩⟩
  · have hcount := (State.rebinds_releaseBinding h.counts (upperOf pr)).useCountsMatch h.counts p
    rw [State.profile_setPair, hcount, State.contextsBoundTo_eq_sum, State.contextsBoundTo_eq_sum]
    exact Finset.sum_congr rfl fun j _ => (s.boundTo_setPair pr mode j p).symm
  · rw [State.mode_setPair] at hq
    split at hq
    next e =>
      subst e
      obtain ⟨hholder, hstate, hbound, hparked, htimer, -⟩ := State.slot_setPair_aside hq hidle hnone
      exact ⟨hholder, hstate, hbound, hparked, htimer⟩
    next hne =>
      rw [State.slot_setPair_ne _ _ _ (upperOf_injective.ne hne), State.slot_setPair_ne _ _ _ (lowerOf_ne_upperOf _ _)]
      exact h.aside q hq
  · by_cases hj : j = upperOf pr
    · subst hj
      rw [State.slot_setPair_upper] at hp
      have hparked : (s.slot (upperOf pr)).parked.isSome = true := by split at hp <;> exact hp
      rw [hnone] at hparked
      cases hparked
    · rw [State.slot_setPair_ne _ _ _ hj] at hp ⊢
      exact h.parked j hp
  · rw [State.mode_setPair] at hq
    split at hq
    next e =>
      subst e
      obtain ⟨-, -, -, -, -, hchecker⟩ := State.slot_setPair_aside hq hidle hnone
      exact hchecker
    next hne =>
      rw [State.slot_setPair_ne _ _ _ (upperOf_injective.ne hne)]
      exact h.checkers ha q hq

theorem Slot.pairable_unparked {sl : Slot} (h : sl.pairable = true) : sl.parked = none := by
  simp only [Slot.pairable, Bool.and_eq_true, Bool.not_eq_true', Option.isSome_eq_false_iff, Option.isNone_iff_eq_none] at h
  exact h.2

theorem upholds_cmdPair (p : Party) (target arg : Nibble) (s : State) : s.Upholds (cmdPair p target arg s).1 := by
  unfold cmdPair
  split
  · dsimp only
    split
    · exact .refl s
    split
    next h =>
      rw [Bool.and_eq_true] at h
      exact (s.upholds_restartHold ..).trans
        (State.upholds_setPair _ (Slot.pairable_idle h.2) (Slot.pairable_unparked h.2))
    · exact s.upholds_restartHold ..
  · exact .refl s

/-! ## Stacks, faults and the part-wide commands -/

theorem upholds_cmdEvPeek (p : Party) (target arg : Nibble) (s : State) : s.Upholds (cmdEvPeek p target arg s).1 := by
  unfold cmdEvPeek
  split
  · exact .refl s
  · exact s.upholds_onAnySlot ..

theorem State.upholds_onStack {remove : Slot → Slot × Status} (h : ∀ sl : Slot, sl.Alike (remove sl).1) (s : State)
    (p : Party) (target : Nibble) : s.Upholds (s.onStack p target remove).1 := by
  refine State.upholds_onHeldSlot (fun i u _ => ?_) s p target
  split
  · exact .refl u
  · exact (State.upholds_modSlot_alike (h _)).reply _

theorem upholds_cmdEvFree (p : Party) (target arg : Nibble) (s : State) : s.Upholds (cmdEvFree p target arg s).1 := by
  unfold cmdEvFree
  split
  · exact .refl s
  · exact State.upholds_onStack (fun _ => Slot.alike_of_active rfl rfl rfl rfl) s p target

theorem Slot.alike_releaseWithheld (sl : Slot) : sl.Alike sl.releaseWithheld := by
  unfold Slot.releaseWithheld
  split
  · exact .refl sl
  · exact Slot.alike_of_active (by simp) (by simp) (by simp) (by simp)

/-- Reading a slot's faults changes faults, and pushes a summary at most. -/
theorem Slot.alike_readFaults (sl : Slot) (p : Party) (mask : BitVec 7) (clears : Bool) :
    sl.Alike (sl.readFaults p mask clears) := by
  have hreleased (m : Marks 7) : sl.Alike ({ sl with faults := m } : Slot).releaseWithheld := by
    obtain ⟨h1, h2, h3, h4, h5, h6, h7⟩ := Slot.alike_releaseWithheld { sl with faults := m }
    exact ⟨h1, h2, h3, h4, h5, h6, h7⟩
  unfold Slot.readFaults
  dsimp only
  repeat' split
  · exact hreleased _
  · exact hreleased _
  all_goals exact Slot.alike_of_active rfl rfl rfl rfl

theorem upholds_cmdFaultRead (p : Party) (target arg : Nibble) (op : Word) (s : State) :
    s.Upholds (cmdFaultRead p target arg op s).1 := by
  unfold cmdFaultRead
  split
  · exact State.upholds_of_same rfl rfl rfl
  split
  · exact .refl s
  · dsimp only
    exact (s.upholds_restartHold p _).trans (State.upholds_modSlot_alike (Slot.alike_readFaults ..))

theorem upholds_cmdAlertMask (p : Party) (target arg : Nibble) (op : Word) (s : State) :
    s.Upholds (cmdAlertMask p target arg op s).1 := by
  unfold cmdAlertMask
  split
  · exact .refl s
  · rw [s.setMask_frame p]
    exact State.upholds_of_same rfl rfl rfl

theorem upholds_cmdPartStatus (p : Party) (target arg : Nibble) (s : State) :
    s.Upholds (cmdPartStatus p target arg s).1 := by
  unfold cmdPartStatus
  split <;> exact .refl s

theorem upholds_cmdSetSampling (p : Party) (target arg : Nibble) (op : Word) (s : State) :
    s.Upholds (cmdSetSampling p target arg op s).1 := by
  unfold cmdSetSampling
  split
  · exact .refl s
  · exact State.upholds_partWide (fun _ => State.upholds_of_same rfl rfl rfl) s p

theorem upholds_cmdTrimSet (p : Party) (target arg : Nibble) (op : Word) (s : State) :
    s.Upholds (cmdTrimSet p target arg op s).1 := by
  unfold cmdTrimSet
  split
  · exact .refl s
  · exact State.upholds_partWide (fun u => (u.upholds_modChannel _ _).reply _) s p

theorem upholds_cmdTrimRead (p : Party) (target arg : Nibble) (s : State) :
    s.Upholds (cmdTrimRead p target arg s).1 := by
  unfold cmdTrimRead
  split <;> exact .refl s

theorem upholds_cmdTrimProgram (p : Party) (target arg : Nibble) (s : State) :
    s.Upholds (cmdTrimProgram p target arg s).1 := by
  unfold cmdTrimProgram
  split
  · exact .refl s
  · refine State.upholds_partWide (fun u => ?_) s p
    split
    · exact .refl u
    · exact State.upholds_of_same rfl rfl rfl

/-! ## The shelf inputs, resets and time -/

theorem State.upholds_atEverySlot {f : State → Fin 8 → State} (h : ∀ (u : State) i, u.Upholds (f u i)) (s : State) :
    s.Upholds (s.atEverySlot f) := by
  unfold State.atEverySlot
  induction List.finRange 8 generalizing s with
  | nil => exact .refl s
  | cons i rest ih => exact (h s i).trans (ih _)

theorem State.upholds_assertInput {set : State → State} (hset : ∀ u : State, u.Upholds (set u)) (s : State)
    (k : PartFault) (already : Bool) : s.Upholds (s.assertInput k already set) := by
  have hraised : s.Upholds (set (s.raisePart k)) :=
    State.Upholds.trans (u := s.raisePart k) (State.upholds_of_same rfl rfl rfl) (hset _)
  unfold State.assertInput
  dsimp only
  split
  · exact .refl s
  split
  · exact hraised
  · exact hraised.trans (State.upholds_atEverySlot State.upholds_pauseSlot _)

theorem State.upholds_releaseInput {set : State → State} (hset : ∀ u : State, u.Upholds (set u)) (s : State) :
    s.Upholds (s.releaseInput set) := by
  unfold State.releaseInput
  dsimp only
  split
  · exact (hset s).trans (State.upholds_atEverySlot State.upholds_resumeSlot _)
  · exact hset s

theorem State.upholds_completeProgramming (s : State) : s.Upholds s.completeProgramming := by
  unfold State.completeProgramming
  split
  · exact .refl s
  · exact State.upholds_of_same rfl rfl rfl

theorem State.profile_resetAll (s : State) (cause : ResetCause) (p : Fin 16) :
    (s.resetAll cause).profile p = (s.profile p).atReset cause := by
  simp [State.resetAll, State.profile]

theorem State.pair_resetAll (s : State) (cause : ResetCause) (q : Fin 4) : (s.resetAll cause).pair q = Pair.reset := by
  simp [State.resetAll, State.pair]

/-- After a reset nothing is bound, paired or parked (R1, R56, R133). -/
theorem State.standing_resetAll (a : Prop) (s : State) (cause : ResetCause) : (s.resetAll cause).Standing a := by
  have hmode (q : Fin 4) : ((s.resetAll cause).pair q).mode = .separate := by
    rw [State.pair_resetAll]
    rfl
  refine ⟨fun p => ?_, fun q hq => absurd (hmode q) hq, fun i hp => ?_, fun _ q hq => absurd (hmode q) hq⟩
  · have hzero (i : Fin 8) : ((s.resetAll cause).slot i).boundTo p = 0 := by
      rw [State.slot_resetAll]
      rfl
    rw [State.profile_resetAll, State.contextsBoundTo_eq_sum, Finset.sum_eq_zero fun i _ => hzero i]
    rfl
  · rw [State.slot_resetAll] at hp
    cases hp

theorem State.upholds_tick (s : State) : s.Upholds s.tick := by
  refine State.upholds_of_alike (fun i => ?_) (fun q => ?_) fun p => ?_
  · rw [State.slot_tick]
    split
    · exact .refl _
    · exact ⟨rfl, rfl, rfl, rfl, rfl, rfl, fun h => by simp [Slot.tick, h]⟩
  · unfold State.tick
    split <;> rfl
  · unfold State.tick
    split <;> rfl

/-! ## Every command, every event, every step -/

/-- What a command or event can do to the store and the holds: records and invariant stand; a record is stored at a profile
that no context uses; or the part is reset, which empties the store only where `powered`. -/
inductive State.Turns (powered : Prop) (s t : State) : Prop
  | upholds (h : s.Upholds t)
  | stores (q : Fin 16) (hfree : (s.profile q).useCount = 0) (r : ProfileRecord)
      (h : (s.modProfile q fun pr => { pr with record := r }).Upholds t)
  | resets (hstands : ∀ a, t.Standing a)
      (hrecords : ¬ powered → ∀ p, (t.profile p).record = (s.profile p).record)

theorem State.Turns.then {powered : Prop} {s u t : State} (h : s.Turns powered u) (h' : u.Upholds t) :
    s.Turns powered t := by
  cases h with
  | upholds h => exact .upholds (h.trans h')
  | stores q hfree r h => exact .stores q hfree r (h.trans h')
  | resets hstands hrecords =>
    exact .resets (fun a => h'.stands (hstands a)) fun hp p => (h'.records p).trans (hrecords hp p)

theorem State.Turns.after {powered : Prop} {s u t : State} (h : u.Turns powered t) (h' : s.OnlyWires u) :
    s.Turns powered t := by
  have hprofile (p : Fin 16) : u.profile p = s.profile p := by rw [h']; rfl
  cases h with
  | upholds h => exact .upholds (h'.upholds.trans h)
  | stores q hfree r h =>
    refine .stores q (by rw [← hprofile]; exact hfree) r (State.Upholds.trans ?_ h)
    rw [h']
    exact State.upholds_of_same rfl rfl rfl
  | resets hstands hrecords => exact .resets hstands fun hp p => by rw [hrecords hp, hprofile]

/-- The invariant does not read the records of the store. -/
theorem State.Standing.storing {a : Prop} {s : State} (h : s.Standing a) (q : Fin 16) (r : ProfileRecord) :
    (s.modProfile q fun pr => { pr with record := r }).Standing a := by
  refine ⟨fun p => ?_, h.aside, h.parked, h.checkers⟩
  rw [State.profile_modProfile]
  split
  next e => exact e ▸ h.counts q
  next => exact h.counts p

theorem State.Turns.standing {powered a : Prop} {s t : State} (h : s.Turns powered t) (hs : s.Standing a) :
    t.Standing a := by
  cases h with
  | upholds h => exact h.stands hs
  | stores q _ r h => exact h.stands (hs.storing q r)
  | resets hstands => exact hstands a

theorem State.Turns.record {powered : Prop} {s t : State} (h : s.Turns powered t) (hp : ¬ powered) {p : Fin 16}
    (hu : (s.profile p).useCount ≠ 0) : (t.profile p).record = (s.profile p).record := by
  cases h with
  | upholds h => exact h.records p
  | stores q hfree r h =>
    have hne : p ≠ q := fun e => hu (e ▸ hfree)
    rw [h.records, State.profile_modProfile_ne _ _ hne]
  | resets _ hrecords => exact hrecords hp p

theorem State.turns_resetAll {powered : Prop} {s u : State} (hprofiles : u.profiles = s.profiles) {cause : ResetCause}
    (hcause : ¬ powered → cause ≠ .power) : s.Turns powered (u.resetAll cause) := by
  refine .resets (fun a => u.standing_resetAll a cause) fun hp p => ?_
  rw [State.profile_resetAll, State.profile, hprofiles]
  exact if_neg (hcause hp)

theorem turns_cmdProfileWrite (powered : Prop) (p : Party) (target arg : Nibble) (ops : List Word) (s : State) :
    s.Turns powered (cmdProfileWrite p target arg ops s).1 := by
  unfold cmdProfileWrite
  split
  · exact .upholds (.refl s)
  dsimp only
  split
  · exact .upholds (.refl s)
  split
  · exact .upholds (.refl s)
  next hfree => exact .stores _ (not_not.mp hfree) _ (.refl _)

theorem turns_cmdDeviceReset (powered : Prop) (p : Party) (target arg : Nibble) (s : State) :
    s.Turns powered (cmdDeviceReset p target arg s).1 := by
  unfold cmdDeviceReset
  repeat' split
  · exact .upholds (.refl s)
  · exact .upholds (.refl s)
  · exact .upholds (.refl s)
  · exact State.turns_resetAll rfl fun _ => by decide

theorem turns_act (powered : Prop) (c : Cmd) (p : Party) (target arg : Nibble) (ops : List Word) (s : State) :
    s.Turns powered (Cmd.act c p target arg ops s).1 := by
  cases c with
  | bind => exact .upholds (upholds_cmdBind p target arg s)
  | unbind => exact .upholds (upholds_cmdUnbind p target arg s)
  | start => exact .upholds (upholds_cmdStart p target arg s)
  | stop => exact .upholds (upholds_cmdStop p target arg s)
  | ack => exact .upholds (upholds_cmdAck p target arg s)
  | drive => exact .upholds (upholds_cmdDrive p target arg _ s)
  | setConv => exact .upholds (upholds_cmdSetConv p target arg _ s)
  | slotInit => exact .upholds (upholds_cmdSlotInit p target arg s)
  | status => exact .upholds (s.upholds_onAnySlot ..)
  | summaryRead => exact .upholds (upholds_cmdSummaryRead p target arg s)
  | take => exact .upholds (upholds_cmdTake p target arg s)
  | release => exact .upholds (upholds_cmdRelease p target arg s)
  | holdTime => exact .upholds (upholds_cmdHoldTime p target arg _ s)
  | evPeek => exact .upholds (upholds_cmdEvPeek p target arg s)
  | evRetire => exact .upholds (State.upholds_onStack (fun _ => Slot.alike_of_active rfl rfl rfl rfl) s p target)
  | evFree => exact .upholds (upholds_cmdEvFree p target arg s)
  | evClear => exact .upholds (State.upholds_onStack (fun _ => Slot.alike_of_active rfl rfl rfl rfl) s p target)
  | faultRead => exact .upholds (upholds_cmdFaultRead p target arg _ s)
  | alertMask => exact .upholds (upholds_cmdAlertMask p target arg _ s)
  | profileWrite => exact turns_cmdProfileWrite powered p target arg ops s
  | profileRead => exact .upholds (.refl s)
  | pair => exact .upholds (upholds_cmdPair p target arg s)
  | partStatus => exact .upholds (upholds_cmdPartStatus p target arg s)
  | setSampling => exact .upholds (upholds_cmdSetSampling p target arg _ s)
  | trimSet => exact .upholds (upholds_cmdTrimSet p target arg _ s)
  | trimRead => exact .upholds (upholds_cmdTrimRead p target arg s)
  | trimProgram => exact .upholds (upholds_cmdTrimProgram p target arg s)
  | deviceReset => exact turns_cmdDeviceReset powered p target arg s

theorem State.live_turns {powered : Prop} {s u t : State} {f : State → State} (hu : s.Upholds u)
    (h : ∀ v : State, v.Upholds (f v)) (ht : u.live f = .next t) : s.Turns powered t := by
  unfold State.live at ht
  injection ht with ht
  rw [← ht]
  split
  · exact .upholds hu
  · exact .upholds (hu.trans (h u))

theorem turns_event {e : Instr} (he : isEvent e = true) {s t : State} (h : exec e s = .next t) :
    s.Turns (e = .powerOn) t := by
  have pins (p : Pins) : s.Upholds { s with pins := p } := State.upholds_of_same rfl rfl rfl
  have heat (b : Bool) (u : State) : u.Upholds { u with heat := b } := State.upholds_of_same rfl rfl rfl
  have supply (b : Bool) (u : State) : u.Upholds { u with supplyLow := b } := State.upholds_of_same rfl rfl rfl
  cases e with
  | sampleArrival ch code => exact State.live_turns (.refl s) (fun v => v.upholds_sampleArrival ch code) h
  | pairSampleEvent pr x y => exact State.live_turns (.refl s) (fun v => v.upholds_pairSample pr x y) h
  | onTimeExpiry i => exact State.live_turns (.refl s) (fun v => v.upholds_onTimeExpiry i) h
  | bleedExpiry i => exact State.live_turns (.refl s) (fun v => v.upholds_bleedExpiry i) h
  | restExpiry i => exact State.live_turns (.refl s) (fun v => v.upholds_restExpiry i) h
  | endOfLead i => exact State.live_turns (.refl s) (fun v => v.upholds_endOfLead i) h
  | drainCompletion i => exact State.live_turns (.refl s) (fun v => v.upholds_drainCompletion i) h
  | holdTimerExpiry i => exact State.live_turns (.refl s) (fun v => v.upholds_holdExpiry i) h
  | trimProgrammingCompletion => exact State.live_turns (.refl s) (fun v => v.upholds_completeProgramming) h
  | heatAsserted => exact State.live_turns (pins _) (fun v => v.upholds_assertInput (heat true) _ _) h
  | heatReleased => exact State.live_turns (pins _) (fun v => v.upholds_releaseInput (heat false)) h
  | supplyLowAsserted => exact State.live_turns (pins _) (fun v => v.upholds_assertInput (supply true) _ _) h
  | supplyLowReleased => exact State.live_turns (pins _) (fun v => v.upholds_releaseInput (supply false)) h
  | resetLineAsserted =>
    injection h with h
    rw [← h]
    split
    · exact .upholds (.refl s)
    · exact .upholds (State.upholds_of_same rfl rfl rfl)
  | resetLineReleased =>
    injection h with h
    rw [← h]
    split
    · dsimp only
      split
      · refine State.turns_resetAll ?_ fun _ => by decide
        rfl
      · exact .upholds (pins _)
    · exact .upholds (.refl s)
  | logicSupplyLoss =>
    injection h with h
    rw [← h]
    split
    · exact .upholds (State.upholds_of_same rfl rfl rfl)
    · exact .upholds (.refl s)
  | powerOn =>
    injection h with h
    rw [← h]
    split
    · exact .upholds (.refl s)
    · refine State.turns_resetAll ?_ fun hp => absurd rfl hp
      rfl
  | _ => exact Bool.noConfusion he

theorem exec_turns {c : Instr} {s t : State} (h : exec c s = .next t) : s.Turns (c = .powerOn) t := by
  cases hc : isEvent c with
  | true => exact turns_event hc h
  | false =>
    obtain ⟨t', ht', htakes⟩ := exec_takes c s hc
    rw [h] at ht'
    injection ht' with e
    rw [e]
    cases htakes with
    | wires hw => exact .upholds hw.upholds
    | command c p target arg ops hu _ _ hw =>
      exact ((turns_act _ c p target arg ops _).after hu).then (State.OnlyWires.upholds hw)

/-- Every step keeps the invariant. -/
theorem State.Standing.step {a : Prop} {s t : State} (hs : s.Standing a) (h : step s = .next t) : t.Standing a := by
  have hwires {u : State} (hu : s.OnlyWires u) : u.Standing a := hu.upholds.stands hs
  unfold Machine.step at h
  split at h
  · exact (exec_turns h).standing (hwires rfl)
  · unfold idleStep at h
    split at h
    · exact (exec_turns h).standing (hwires rfl)
    · injection h with h
      rw [← h]
      exact s.upholds_tick.stands hs

/-- Settles O7: no command, event or passing of time breaks `State.Standing`. -/
theorem useCountsAndHoldsAreKept : Obligations.UseCountsAndHoldsAreKept := by
  intro s t hcounts hholds hstep
  obtain ⟨haside, hparked⟩ := hholds
  have hs : s.Standing s.UpperCheckersAtStart := ⟨hcounts, haside, hparked, id⟩
  obtain ⟨hcounts', haside', hparked', hcheckers'⟩ := hs.step hstep
  exact ⟨hcounts', ⟨haside', hparked'⟩, hcheckers'⟩

/-- Settles O16: a write is taken only at a profile that no context uses, and of the resets only power-on empties the store. -/
theorem boundProfileKeepsItsRecord : Obligations.BoundProfileKeepsItsRecord :=
  fun _ _ _ _ hu hc hexec => (exec_turns hexec).record hc hu

end Sys2Proof.Machine
end

section
/-!
PROOFS. The words of a profile: PROFILE-READ's read back as a PROFILE-WRITE's operands (O26), and what a PROFILE-WRITE stores
(O45).
-/

namespace Sys2Proof.Machine

/-! ## The words of a record -/

@[simp] theorem stageKindOf_code (k : StageKind) : stageKindOf k.code = k := by cases k <;> rfl

@[simp] theorem onFailOf_code (a : OnFail) : onFailOf a.code = some a := by cases a <;> rfl

theorem StageKind.code_eq (k : StageKind) :
    k.code = match k with
      | .wait => 0
      | .rise => 1
      | .dip => 2
      | .band => 3 := by
  cases k <;> rfl

theorem OnFail.code_eq (a : OnFail) :
    a.code = match a with
      | .carryOn => 0
      | .cut => 1
      | .halt => 2 := by
  cases a <;> rfl

theorem StageKind.code_lt (k : StageKind) : k.code < 4 := by cases k <;> decide

theorem OnFail.code_lt (a : OnFail) : a.code < 4 := by cases a <;> decide

/-- The first word of a stage (12.5). -/
def Stage.head (st : Stage) : Word := field 2 0 st.kind.code ||| field 6 2 st.dd ||| field 16 16 st.window

theorem Stage.head_fields (st : Stage) :
    bitsOf st.head 0 2 = st.kind.code % 4 ∧ bitsOf st.head 2 6 = st.dd % 64
      ∧ bitsOf st.head 16 16 = st.window % 65536 := by
  simp [Stage.head, bitsOf_or, bitsOf_field_same, bitsOf_field_other]

/-- The sixth word of a record (12.5). -/
def ProfileRecord.sixth (r : ProfileRecord) : Word :=
  field 8 0 r.surgeCode ||| field 8 8 r.bleed ||| field 8 16 r.standbyLead ||| field 6 24 r.tripDebounce
    ||| field 2 30 r.action.code

theorem ProfileRecord.sixth_fields (r : ProfileRecord) :
    bitsOf r.sixth 0 8 = r.surgeCode % 256 ∧ bitsOf r.sixth 8 8 = r.bleed % 256
      ∧ bitsOf r.sixth 16 8 = r.standbyLead % 256 ∧ bitsOf r.sixth 24 6 = r.tripDebounce % 64
      ∧ bitsOf r.sixth 30 2 = r.action.code % 4 := by
  simp [ProfileRecord.sixth, bitsOf_or, bitsOf_field_same, bitsOf_field_other]

/-- A stage whose fields fit their places is carried by its words. -/
theorem stageCarried_head {st : Stage} (h : st.dd < 64 ∧ st.window < 65536 ∧ st.a < 65536 ∧ st.b < 65536) :
    stageCarried st.head (halves st.a st.b) = st := by
  obtain ⟨hdd, hwindow, ha, hb⟩ := h
  obtain ⟨hkind, hdd', hwindow'⟩ := st.head_fields
  simp only [stageCarried, hkind, hdd', hwindow', bitsOf_halves_low, bitsOf_halves_high,
    Nat.mod_eq_of_lt st.kind.code_lt, stageKindOf_code, Nat.mod_eq_of_lt, hdd, hwindow, ha, hb]

theorem stagesCarried_words {stages : List Stage}
    (h : ∀ st ∈ stages, st.dd < 64 ∧ st.window < 65536 ∧ st.a < 65536 ∧ st.b < 65536) :
    stagesCarried (stages.flatMap fun st => [st.head, halves st.a st.b]) = stages := by
  induction stages with
  | nil => rfl
  | cons st rest ih =>
    rw [List.forall_mem_cons] at h
    show stageCarried st.head (halves st.a st.b) :: stagesCarried (rest.flatMap _) = st :: rest
    rw [stageCarried_head h.1, ih h.2]

theorem stageWords_length (stages : List Stage) :
    (stages.flatMap fun st => [st.head, halves st.a st.b]).length = 2 * stages.length := by
  induction stages with
  | nil => rfl
  | cons st rest ih =>
    simp only [List.flatMap_cons, List.length_append, List.length_cons, List.length_nil, ih]
    omega

theorem ProfileRecord.words_eq (r : ProfileRecord) :
    r.words =
      halves r.surgeLimit r.soakLimit :: halves r.tripLevel r.openThreshold :: halves r.standbyLimit r.standbyTrip
        :: halves r.onTime r.offTime :: halves r.cycleCount r.driftLimit :: r.sixth
        :: r.stages.flatMap fun st => [st.head, halves st.a st.b] := rfl

/-- Settles O26: each word is read back field by field, and the stages by induction on their list. -/
theorem profileWordsRoundTrip : Obligations.ProfileWordsRoundTrip := by
  intro r hsurge hsoak htrip hopen hstandby hstandbyTrip hon hoff hcycle hdrift hcode hbleed hlead hdebounce hstages
  obtain ⟨fcode, fbleed, flead, fdebounce, faction⟩ := r.sixth_fields
  rw [Nat.mod_eq_of_lt (OnFail.code_lt _)] at faction
  have haction : onFailOf (bitsOf (r.words.getD 5 0) 30 2) = some r.action := by
    show onFailOf (bitsOf r.sixth 30 2) = _
    rw [faction, onFailOf_code]
  have hcarried : recordCarried r.words r.action = r := by
    rw [ProfileRecord.words_eq]
    simp only [recordCarried, List.getD_cons_zero, List.getD_cons_succ, List.drop_succ_cons, List.drop_zero,
      bitsOf_halves_low, bitsOf_halves_high, stagesCarried_words hstages, fcode, fbleed, flead, fdebounce,
      Nat.mod_eq_of_lt, hsurge, hsoak, htrip, hopen, hstandby, hstandbyTrip, hon, hoff, hcycle, hdrift, hcode, hbleed,
      hlead, hdebounce]
  refine ⟨?_, ?_⟩
  · rw [ProfileRecord.words_eq]
    simp only [List.length_cons, stageWords_length]
    omega
  · simp only [writeCarried, haction, Option.getD_some, hcarried]

/-! ## The stages that words carry -/

/-- The stage at a place is carried by the two words at twice that place. -/
theorem stagesCarried_getElem? (ws : List Word) (k : Nat) :
    (stagesCarried ws)[k]? =
      if 2 * k + 1 < ws.length then some (stageCarried (ws.getD (2 * k) 0) (ws.getD (2 * k + 1) 0)) else none := by
  induction ws using stagesCarried.induct generalizing k with
  | case1 w1 w2 rest ih =>
    rw [stagesCarried]
    cases k with
    | zero => simp
    | succ k =>
      have hlen : 2 * k + 1 < rest.length ↔ 2 * (k + 1) + 1 < (w1 :: w2 :: rest).length := by
        simp only [List.length_cons]
        omega
      rw [List.getElem?_cons_succ, ih k, if_congr hlen rfl rfl]
      rfl
  | case2 ws h =>
    match ws, h with
    | [], _ => simp [stagesCarried]
    | [_], _ => simp [stagesCarried]
    | w1 :: w2 :: rest, h => exact absurd rfl (h w1 w2 rest)

theorem getD_take {ws : List Word} {n k : Nat} (h : k < n) : (ws.take n).getD k 0 = ws.getD k 0 := by
  rw [List.getD_eq_getElem?_getD, List.getElem?_take_of_lt h, ← List.getD_eq_getElem?_getD]

theorem getD_drop (ws : List Word) (n k : Nat) : (ws.drop n).getD k 0 = ws.getD (n + k) 0 := by
  rw [List.getD_eq_getElem?_getD, List.getElem?_drop, ← List.getD_eq_getElem?_getD]

/-- The stages of a write of `count` stages, by the places of their words (R49). -/
theorem stagesCarried_write {ws : List Word} {count : Nat} (hlen : 6 + 2 * count ≤ ws.length) (k : Nat) :
    (stagesCarried ((ws.take (6 + 2 * count)).drop 6))[k]? =
      if k < count then some (stageCarried (ws.getD (6 + 2 * k) 0) (ws.getD (7 + 2 * k) 0)) else none := by
  have hcount : 2 * k + 1 < ((ws.take (6 + 2 * count)).drop 6).length ↔ k < count := by
    rw [List.length_drop, List.length_take, Nat.min_eq_left hlen]
    omega
  rw [stagesCarried_getElem?, if_congr hcount rfl rfl]
  split
  next hk =>
    rw [getD_drop, getD_drop, getD_take (by omega), getD_take (by omega)]
    congr 3
    omega
  next => rfl

/-- It carries that many. -/
theorem stagesCarried_write_length {ws : List Word} {count : Nat} (hlen : 6 + 2 * count ≤ ws.length) :
    (stagesCarried ((ws.take (6 + 2 * count)).drop 6)).length = count := by
  rw [(stagesCarried_spec _).1, List.length_drop, List.length_take, Nat.min_eq_left hlen]
  omega

/-! ## What a write is refused for -/

theorem onFailOf_isNone {v : Nat} (h : v < 4) : (onFailOf v).isNone = true ↔ v = 3 := by
  interval_cases v <;> decide

theorem code_of_onFailOf {v : Nat} {a : OnFail} (h : onFailOf v = some a) : a.code = v := by
  unfold onFailOf at h
  split at h <;> cases h <;> rfl

theorem code_stageKindOf {v : Nat} (h : v < 4) : (stageKindOf v).code = v := by
  interval_cases v <;> rfl

theorem stageKindOf_band {v : Nat} (h : v < 4) : stageKindOf v = .band ↔ v = 3 := by
  interval_cases v <;> decide

/-- A BAND stage whose carried A is above its carried B (R48). -/
theorem badBand_stageCarried (w1 w2 : Word) :
    (stageCarried w1 w2).badBand = true ↔ bitsOf w1 0 2 = 3 ∧ bitsOf w2 16 16 < bitsOf w2 0 16 := by
  rw [Stage.badBand, Bool.and_eq_true, decide_eq_true_eq, decide_eq_true_eq]
  exact and_congr (stageKindOf_band (bitsOf_lt w1 0 2)) Iff.rfl

/-- The record's own BAD-ARG (R51), by the places of the words. -/
theorem badRecord_iff {ws : List Word} {count : Nat} (hlen : 6 + 2 * count ≤ ws.length) :
    badRecord (writeCarried (ws.take (6 + 2 * count))).1 (writeCarried (ws.take (6 + 2 * count))).2 = true ↔
      bitsOf (ws.getD 3 0) 0 16 = 0 ∨ bitsOf (ws.getD 5 0) 30 2 = 3
        ∨ ∃ k, k < count ∧ bitsOf (ws.getD (6 + 2 * k) 0) 0 2 = 3
          ∧ bitsOf (ws.getD (7 + 2 * k) 0) 16 16 < bitsOf (ws.getD (7 + 2 * k) 0) 0 16 := by
  have hband : (stagesCarried ((ws.take (6 + 2 * count)).drop 6)).any Stage.badBand = true ↔
      ∃ k, k < count ∧ bitsOf (ws.getD (6 + 2 * k) 0) 0 2 = 3
        ∧ bitsOf (ws.getD (7 + 2 * k) 0) 16 16 < bitsOf (ws.getD (7 + 2 * k) 0) 0 16 := by
    simp only [List.any_eq_true, List.mem_iff_getElem?, stagesCarried_write hlen, ← badBand_stageCarried]
    constructor
    · rintro ⟨st, ⟨k, hk⟩, hbad⟩
      split at hk
      next hlt =>
        cases hk
        exact ⟨k, hlt, hbad⟩
      next => cases hk
    · rintro ⟨k, hlt, hbad⟩
      exact ⟨_, ⟨k, if_pos hlt⟩, hbad⟩
  simp only [badRecord, writeCarried, recordCarried, getD_take (show 3 < 6 + 2 * count by omega),
    getD_take (show 5 < 6 + 2 * count by omega), Bool.or_eq_true, decide_eq_true_eq,
    onFailOf_isNone (bitsOf_lt (ws.getD 5 0) 30 2), hband, or_assoc]

theorem profileWriteWords_eq {arg : Nibble} (h : 1 ≤ arg.toNat) (h' : arg.toNat ≤ 12) :
    profileWriteWords arg = 6 + 2 * arg.toNat := if_pos ⟨h, h'⟩

/-- What a write that has its words does (R51). -/
theorem cmdProfileWrite_eq {arg : Nibble} (h : profileWriteWords arg ≠ 0) (p : Party) (target : Nibble)
    (ops : List Word) (s : State) :
    cmdProfileWrite p target arg ops s =
      let c := writeCarried ops
      if badRecord c.1 c.2 then (s, Reply.bare .badArg)
      else if (s.profile (profileOf target)).useCount ≠ 0 then (s, Reply.bare .inUse)
      else
        (s.modProfile (profileOf target) fun pr => { pr with record := c.1.stored },
          Reply.bare (if c.1.stored = c.1 then .ok else .clamped)) := if_neg h

/-! ## What a write stores -/

theorem levelStored_eq (v : Nat) : levelStored v = min v 32767 := by
  unfold levelStored clamp
  omega

theorem debounceStored_eq (v : Nat) : debounceStored v = max 1 (min v 15) := by
  unfold debounceStored clamp
  omega

/-- The on-fail action of a write that is not refused for it, by its code (12.5). -/
theorem action_writeCarried {ws : List Word} (h : bitsOf (ws.getD 5 0) 30 2 ≠ 3) :
    bitsOf (ws.getD 5 0) 30 2 = (writeCarried ws).1.action.code := by
  have hv := bitsOf_lt (ws.getD 5 0) 30 2
  obtain ⟨a, ha⟩ : ∃ a, onFailOf (bitsOf (ws.getD 5 0) 30 2) = some a :=
    Option.ne_none_iff_exists'.mp fun e => h ((onFailOf_isNone hv).mp (by rw [e]; rfl))
  simp only [writeCarried, recordCarried, ha, Option.getD_some]
  exact (code_of_onFailOf ha).symm

/-- The stored record of a write but for its action and stages, by the places of its words (R43 to R46). -/
theorem stored_writeCarried {ws : List Word} {n : Nat} (hn : 6 ≤ n) :
    let r := (writeCarried (ws.take n)).1.stored
    let w (k : Nat) : Word := ws.getD k 0
    let lo (k : Nat) : Nat := bitsOf (w k) 0 16
    let hi (k : Nat) : Nat := bitsOf (w k) 16 16
    r.surgeLimit = min (lo 0) 32767 ∧ r.soakLimit = min (hi 0) 32767
      ∧ r.tripLevel = max (min (lo 1) 32767) (max r.surgeLimit r.soakLimit) ∧ r.openThreshold = min (hi 1) 32767
      ∧ r.standbyLimit = min (lo 2) 32767 ∧ r.standbyTrip = max (min (hi 2) 32767) r.standbyLimit
      ∧ r.onTime = lo 3 ∧ r.offTime = hi 3 ∧ r.cycleCount = lo 4 ∧ r.driftLimit = min (hi 4) 32767
      ∧ r.surgeCode = bitsOf (w 5) 0 8 ∧ r.bleed = min (bitsOf (w 5) 8 8) (hi 3)
      ∧ r.standbyLead = min (bitsOf (w 5) 16 8) (lo 3 - 1)
      ∧ r.tripDebounce = max 1 (min (bitsOf (w 5) 24 6) 15) := by
  simp only [writeCarried, ProfileRecord.stored, recordCarried, levelStored_eq, debounceStored_eq,
    getD_take (show 0 < n by omega), getD_take (show 1 < n by omega), getD_take (show 2 < n by omega),
    getD_take (show 3 < n by omega), getD_take (show 4 < n by omega), getD_take (show 5 < n by omega), and_self]

/-- A stored stage, by the words that carried it (R43, R46, R48). -/
theorem stored_stageCarried (w1 w2 : Word) :
    bitsOf w1 0 2 = (stageCarried w1 w2).stored.kind.code
      ∧ (stageCarried w1 w2).stored.dd = max 1 (min (bitsOf w1 2 6) 15)
      ∧ (stageCarried w1 w2).stored.window = max 1 (bitsOf w1 16 16)
      ∧ (stageCarried w1 w2).stored.a = min (bitsOf w2 0 16) 32767
      ∧ (stageCarried w1 w2).stored.b = min (bitsOf w2 16 16) 32767 :=
  ⟨(code_stageKindOf (bitsOf_lt w1 0 2)).symm, debounceStored_eq _, rfl, levelStored_eq _, levelStored_eq _⟩

/-- A taken write leaves everything but the record of its profile, and the port that it answers. -/
theorem profileWrite_frame {s t : State} {q : Fin 16} {r : ProfileRecord}
    (ht : (s.modProfile q fun pr => { pr with record := r }).OnlyPorts t) :
    t.profile q = { record := r, useCount := (s.profile q).useCount } ∧ (∀ q', q' ≠ q → t.profile q' = s.profile q')
      ∧ t = { s with profiles := t.profiles, rack := t.rack, bench := t.bench, bus := t.bus } := by
  refine ⟨?_, fun q' hq => ?_, ?_⟩
  · rw [State.OnlyPorts.profile ht, State.profile_modProfile_self]
  · rw [State.OnlyPorts.profile ht, State.profile_modProfile_ne _ _ hq]
  · rw [ht]
    rfl

/-- Settles O45: the refusals by the places of the words, then the stored record field by field. -/
theorem profileWriteStoresTheClampedRecord : Obligations.ProfileWriteStoresTheClampedRecord := by
  intro p target arg ops s h n q row count w lo hi badBand bad
  have htaken (h1 : 1 ≤ count) (h12 : count ≤ 12) :
      cmdProfileWrite p target arg (ops.toList.take (profileWriteWords arg)) s =
        let c := writeCarried (ops.toList.take (6 + 2 * count))
        if badRecord c.1 c.2 then (s, Reply.bare .badArg)
        else if (s.profile q).useCount ≠ 0 then (s, Reply.bare .inUse)
        else
          (s.modProfile q fun pr => { pr with record := c.1.stored },
            Reply.bare (if c.1.stored = c.1 then .ok else .clamped)) := by
    have hwords : profileWriteWords arg = 6 + 2 * count := profileWriteWords_eq h1 h12
    rw [cmdProfileWrite_eq (by omega), hwords]
  have hfits (h12 : count ≤ 12) : 6 + 2 * count ≤ ops.toList.length := by
    rw [Vector.length_toList]
    omega
  have hbadRecord (h12 : count ≤ 12) := badRecord_iff (hfits h12)
  refine ⟨fun hcount => ?_, fun h1 h12 hbad => ?_, fun h1 h12 hbad hbound => ?_, fun h1 h12 hbad hfree => ?_⟩
  · have hnone : profileWriteWords arg = 0 := if_neg (by omega)
    exact State.command_refuses h .profileWrite arg (if_pos hnone)
  · exact State.command_refuses h .profileWrite arg ((htaken h1 h12).trans (if_pos ((hbadRecord h12).mpr hbad)))
  · refine State.command_refuses h .profileWrite arg ((htaken h1 h12).trans ?_)
    exact (if_neg (mt (hbadRecord h12).mp hbad)).trans (if_pos hbound)
  · have hact := ((htaken h1 h12).trans (if_neg (mt (hbadRecord h12).mp hbad))).trans (if_neg (not_not.mpr hfree))
    have hlen := hfits h12
    obtain ⟨t, hexec, hans, ht⟩ := State.command_replies (target := target) h .profileWrite hact ⟨rfl, rfl, rfl⟩
    obtain ⟨hself, hother, hframe⟩ := profileWrite_frame ht
    obtain ⟨hsurge, hsoak, htrip, hopen, hstandby, hstandbyTrip, hon, hoff, hcycle, hdrift, hcode, hbleed, hlead,
      hdebounce⟩ := stored_writeCarried (ws := ops.toList) (n := 6 + 2 * count) (by omega)
    have haction := action_writeCarried (ws := ops.toList.take (6 + 2 * count)) (by
      rw [getD_take (by omega)]
      exact fun e => hbad (.inr (.inl e)))
    rw [getD_take (by omega)] at haction
    refine ⟨t, _, hexec, hself.trans (by rw [hfree]), hsurge, hsoak, htrip, hopen, hstandby, hstandbyTrip, hon, hoff,
      hcycle, hdrift, hcode, hbleed, hlead, hdebounce, haction.trans ?_, ?_, fun k st hk => ?_, hans, hother, hframe⟩
    · exact OnFail.code_eq _
    · exact (List.length_map _).trans (stagesCarried_write_length hlen)
    · obtain ⟨st', hst', rfl⟩ := Option.map_eq_some_iff.mp (List.getElem?_map.symm.trans hk)
      rw [show (writeCarried _).1.stages = stagesCarried _ from rfl, stagesCarried_write hlen] at hst'
      split at hst'
      next =>
        cases hst'
        obtain ⟨hkind, hrest⟩ := stored_stageCarried (w (6 + 2 * k)) (w (7 + 2 * k))
        exact ⟨hkind.trans (StageKind.code_eq _), hrest⟩
      next => cases hst'

end Sys2Proof.Machine
end

section
/-!
PROOFS. The invariants after the first power-on (O5): every slot, channel, pair and profile is the same there.
-/

namespace Sys2Proof.Machine

/-- After the first power-on nothing is bound, parked or paired. -/
theorem State.standing_reset (a : Prop) : State.reset.Standing a := by
  have hmode (q : Fin 4) : (State.reset.pair q).mode = .separate := by
    rw [State.pair_reset]
    rfl
  refine ⟨fun p => ?_, fun q hq => absurd (hmode q) hq, fun i hp => ?_, fun _ q hq => absurd (hmode q) hq⟩
  · rw [State.profile_reset, State.contextsBoundTo_eq_sum,
      Finset.sum_eq_zero fun i _ => by rw [State.slot_reset]; rfl]
  · rw [State.slot_reset] at hp
    cases hp

theorem State.benchHoldsStand_reset : State.reset.BenchHoldsStand := by
  intro i
  rw [State.slot_reset]
  exact ⟨nofun, fun _ => rfl, nofun⟩

theorem State.runsAreBound_reset : State.reset.RunsAreBound := by
  refine State.runsAreBound_iff.mpr fun i c hc => ?_
  rw [State.slot_reset] at hc
  rcases hc with rfl | hc
  · exact Context.boundIn_reset _
  · cases hc

theorem State.senseInRange_reset : State.reset.SenseInRange := by
  refine ⟨fun c => ?_, by decide, by decide, by decide, nofun⟩
  rw [State.channel_reset]
  decide

theorem Context.reset_reportsInRange : Context.reset.ReportsInRange := ⟨by decide, by decide, nofun, nofun, nofun⟩

/-- Settles O5: each invariant holds of the one reset slot, channel, pair or profile. -/
theorem invariantsStandAfterPowerOn : Obligations.InvariantsStandAfterPowerOn := by
  obtain ⟨hcounts, haside, hparked, hcheckers⟩ := State.standing_reset True
  have hslot := State.slot_reset
  refine ⟨fun i => ?_, hcounts, ⟨haside, hparked⟩, State.benchHoldsStand_reset, fun i => ?_, State.runsAreBound_reset,
    fun p => ?_, ⟨rfl, rfl⟩, nofun, fun _ => ⟨rfl, rfl⟩, State.senseInRange_reset, fun i => ?_, fun i => ?_, fun i => ?_, fun p hp => ?_,
    hcheckers trivial⟩
  · rw [hslot]
    rfl
  · rw [hslot]
    exact ⟨rfl, rfl, rfl⟩
  · rw [State.profile_reset]
    exact .inl rfl
  · rw [hslot]
    exact ⟨Context.countersInRange_reset, fun _ hn => by cases hn⟩
  · rw [hslot]
    exact ⟨Context.reset_reportsInRange, fun _ hn => (by cases hn), fun _ hn => by cases hn⟩
  · rw [hslot]
    exact ⟨rfl, fun _ hn => by cases hn⟩
  · rw [State.pair_reset] at hp
    cases hp

end Sys2Proof.Machine
end

section
/-!
SUPPORT. What a stage of the signature checker does with a sample, a lemma for each kind of stage, and what a sample does to
the walk through the stage list.
-/

namespace Sys2Proof.Machine

/-! ## WAIT -/

/-- A WAIT stage's sample (R63). -/
theorem Stage.takeSample_wait {st : Stage} (h : st.kind = .wait) (limit current : Nat) (c : Checker) :
    st.takeSample limit current c =
      ({ c with j := c.j + 1 }, if c.j + 1 = st.window then .pass else .open) := by
  unfold Stage.takeSample
  rw [h]
  rfl

/-! ## RISE and BAND: stages that count consecutive samples -/

/-- A stage that counts the consecutive samples meeting a test: `hit` where the count reaches the debounce, else `miss`
at the end of the window. -/
def Stage.CountsRuns (st : Stage) (limit : Nat) (test : Nat → Bool) (hit miss : StageResult) : Prop :=
  ∀ (c : Checker) (x : Nat),
    let run := if test x = true then c.run + 1 else 0
    st.takeSample limit x c =
      ({ c with j := c.j + 1, run := run },
        if run = st.dd then hit else if c.j + 1 = st.window then miss else .open)

/-- A RISE stage counts the samples at or above A (R64). -/
theorem Stage.countsRuns_rise {st : Stage} (h : st.kind = .rise) (limit : Nat) :
    st.CountsRuns limit (fun x => decide (st.a ≤ x)) .pass (.fail .window) := by
  intro c x
  simp only [Stage.takeSample, h, Stage.rise, decide_eq_true_eq]

/-- A BAND stage counts the samples outside [A, B] (R67). -/
theorem Stage.countsRuns_band {st : Stage} (h : st.kind = .band) (limit : Nat) :
    st.CountsRuns limit (fun x => decide (x < st.a) || decide (st.b < x)) (.fail .excursion) .pass := by
  intro c x
  simp only [Stage.takeSample, h, Stage.band, Bool.or_eq_true, decide_eq_true_eq]

/-- A stage goes on to the next sample where one leaves it open. -/
theorem Stage.over_cons (st : Stage) (limit x : Nat) (c : Checker) (rest : List Nat) :
    st.over limit c (x :: rest) =
      if (st.takeSample limit x c).2 = .open then st.over limit (st.takeSample limit x c).1 rest
      else st.takeSample limit x c := by
  rw [Stage.over]
  split <;> simp [*]

/-- The samples of a window begin with as many that meet a test as a count of `run` still needs. -/
def completesCount (test : Nat → Bool) (samples : List Nat) (w count run : Nat) : Prop :=
  count ≤ run + min samples.length w ∧ ∀ k, run + k < count → test (samples.getD k 0) = true

/-- `hasRun` of a stage that has already counted `run` samples in a row: the run under way is completed, or another is
found. -/
def hasRunFrom (test : Nat → Bool) (samples : List Nat) (w count run : Nat) : Prop :=
  completesCount test samples w count run ∨ hasRun test samples w count

section
variable {test : Nat → Bool} {x : Nat} {rest samples : List Nat} {w count run : Nat}

theorem completesCount_mono {run' : Nat} (hle : run ≤ run') (h : completesCount test samples w count run) :
    completesCount test samples w count run' :=
  have ⟨hlen, htest⟩ := h
  ⟨by omega, fun k hk => htest k (by omega)⟩

theorem completesCount_cons (hrun : run < count) :
    completesCount test (x :: rest) (w + 1) count run ↔ test x = true ∧ completesCount test rest w count (run + 1) := by
  unfold completesCount
  rw [List.length_cons]
  constructor
  · rintro ⟨hlen, htest⟩
    exact ⟨htest 0 hrun, by omega, fun k hk => htest (k + 1) (by omega)⟩
  · rintro ⟨hx, hlen, htest⟩
    refine ⟨by omega, fun k hk => ?_⟩
    cases k with
    | zero => exact hx
    | succ k => exact htest k (by omega)

/-- A run in a list begins at its first sample or lies in the rest. -/
theorem hasRun_cons :
    hasRun test (x :: rest) (w + 1) count ↔
      completesCount test (x :: rest) (w + 1) count 0 ∨ hasRun test rest w count := by
  unfold hasRun completesCount
  rw [List.length_cons]
  constructor
  · rintro ⟨m, hlen, htest⟩
    cases m with
    | zero => exact .inl ⟨by omega, fun k hk => by simpa using htest k (by omega)⟩
    | succ m => exact .inr ⟨m, by omega, fun k hk => by simpa [Nat.succ_add] using htest k hk⟩
  · rintro (⟨hlen, htest⟩ | ⟨m, hlen, htest⟩)
    · exact ⟨0, by omega, fun k hk => by simpa using htest k (by omega)⟩
    · exact ⟨m + 1, by omega, fun k hk => by simpa [Nat.succ_add] using htest k hk⟩

theorem hasRunFrom_zero : hasRunFrom test samples w count 0 ↔ hasRun test samples w count :=
  or_iff_right_of_imp fun ⟨hlen, htest⟩ => ⟨0, by omega, fun k hk => by simpa using htest k (by omega)⟩

/-- A count that has reached the debounce is a run. -/
theorem hasRunFrom_self : hasRunFrom test samples w count count :=
  .inl ⟨by omega, fun k hk => by omega⟩

/-- Where no samples are left, or none of the window, no run comes about. -/
theorem not_hasRunFrom_of_min_eq_zero (hmin : min samples.length w = 0) (hrun : run < count) :
    ¬ hasRunFrom test samples w count run := by
  rintro (⟨hlen, -⟩ | ⟨m, hlen, -⟩) <;> omega

/-- A sample that meets the test lengthens the run under way, another ends it. -/
theorem hasRunFrom_cons (hrun : run < count) :
    hasRunFrom test (x :: rest) (w + 1) count run ↔
      hasRunFrom test rest w count (if test x = true then run + 1 else 0) := by
  rw [hasRunFrom, hasRun_cons, completesCount_cons hrun, completesCount_cons (Nat.zero_lt_of_lt hrun)]
  by_cases hx : test x = true
  · have hmono : completesCount test rest w count (0 + 1) → completesCount test rest w count (run + 1) :=
      completesCount_mono (by omega)
    rw [if_pos hx, hasRunFrom]
    tauto
  · rw [if_neg hx, hasRunFrom_zero]
    tauto

end

/-- A counting stage with `w` samples of its window left: what it has decided after the samples of a list. -/
theorem Stage.CountsRuns.over_cases {st : Stage} {limit : Nat} {test : Nat → Bool} {hit miss : StageResult}
    (h : st.CountsRuns limit test hit miss) (hhit : hit ≠ .open) (hmiss : miss ≠ .open) (samples : List Nat) :
    ∀ (c : Checker) (w : Nat), c.run < st.dd → 0 < w → c.j + w = st.window →
      let result := (st.over limit c samples).2
      let runs := hasRunFrom test samples w st.dd c.run
      (runs ∧ result = hit) ∨ (¬ runs ∧ w ≤ samples.length ∧ result = miss)
        ∨ (¬ runs ∧ samples.length < w ∧ result = .open) := by
  induction samples with
  | nil =>
    intro c w hrun hw _
    exact .inr (.inr ⟨not_hasRunFrom_of_min_eq_zero (Nat.zero_min w) hrun, hw, rfl⟩)
  | cons x rest ih =>
    intro c w hrun hw hj
    obtain ⟨w, rfl⟩ := Nat.exists_eq_add_one.mpr hw
    dsimp only
    rw [hasRunFrom_cons hrun, Stage.over_cons, h c x, List.length_cons]
    have hle : (if test x = true then c.run + 1 else 0) ≤ st.dd := by split <;> omega
    generalize (if test x = true then c.run + 1 else 0) = run at hle
    dsimp only
    by_cases hdd : run = st.dd
    · rw [if_pos hdd, if_neg hhit, hdd]
      exact .inl ⟨hasRunFrom_self, rfl⟩
    have hlt : run < st.dd := by omega
    by_cases hend : c.j + 1 = st.window
    · have hw0 : w = 0 := by omega
      rw [if_neg hdd, if_pos hend, if_neg hmiss]
      exact .inr (.inl ⟨not_hasRunFrom_of_min_eq_zero (by rw [hw0, Nat.min_zero]) hlt, by omega, rfl⟩)
    · rw [if_neg hdd, if_neg hend, if_pos rfl, Nat.add_le_add_iff_right, Nat.add_lt_add_iff_right]
      exact ih { c with j := c.j + 1, run := run } w hlt (by omega) (by dsimp only; omega)

/-- The same of a stage that has just opened. -/
theorem Stage.CountsRuns.over_opened {st : Stage} {limit : Nat} {test : Nat → Bool} {hit miss : StageResult}
    (h : st.CountsRuns limit test hit miss) (hhit : hit ≠ .open) (hmiss : miss ≠ .open) (hne : hit ≠ miss)
    {c : Checker} (hj : c.j = 0) (hrun : c.run = 0) (hdd : 1 ≤ st.dd) (hwindow : 1 ≤ st.window) (samples : List Nat) :
    let result := (st.over limit c samples).2
    let runs := hasRun test samples st.window st.dd
    (result = hit ↔ runs) ∧ (result = miss ↔ (¬ runs ∧ st.window ≤ samples.length))
      ∧ (result = .open ↔ (¬ runs ∧ samples.length < st.window)) := by
  have hcases := h.over_cases hhit hmiss samples c st.window (by omega) hwindow (by omega)
  rw [hrun, hasRunFrom_zero] at hcases
  dsimp only
  rcases hcases with ⟨hr, e⟩ | ⟨hr, hlen, e⟩ | ⟨hr, hlen, e⟩
  · simp [e, hr, hhit, hne]
  · simp [e, hr, hlen, hne.symm, hmiss, Nat.not_lt.mpr hlen]
  · simp [e, hr, hlen, hhit.symm, hmiss.symm, Nat.not_le.mpr hlen]

/-! ## DIP -/

section
variable {st : Stage} {limit current : Nat} {c : Checker}

/-- The LIMIT test stands before all other work of a DIP stage (R65). -/
theorem Stage.takeSample_dip_limit (h : st.kind = .dip) (hlimit : limit ≤ current) :
    st.takeSample limit current c = ({ c with j := c.j + 1 }, .fail .limit) := by
  simp only [Stage.takeSample, h, Stage.dip, if_pos hlimit]

/-- Following the current leaves j and the walk (R65, R66). -/
theorem Stage.follow_kept (st : Stage) (current : Nat) (c : Checker) :
    (st.follow current c).j = c.j ∧ (st.follow current c).stage = c.stage
      ∧ (st.follow current c).condition = c.condition := by
  unfold Stage.follow
  split
  · split
    · exact ⟨rfl, rfl, rfl⟩
    · split <;> exact ⟨rfl, rfl, rfl⟩
  · split <;> exact ⟨rfl, rfl, rfl⟩

/-- A sample below the limit: the arming, or the descent and the pass at Dd; else WINDOW at W (R65, R66). -/
theorem Stage.takeSample_dip {c' : Checker} (h : st.kind = .dip) (hlimit : current < limit)
    (hfollow : st.follow current { c with j := c.j + 1 } = c') :
    st.takeSample limit current c =
      (c', if c.armed = true ∧ c'.run = st.dd then .pass else if c.j + 1 = st.window then .fail .window else .open) := by
  have hj : c'.j = c.j + 1 := hfollow ▸ (st.follow_kept ..).1
  simp only [Stage.takeSample, h, Stage.dip, if_neg (Nat.not_le.mpr hlimit), hfollow, hj]

theorem Stage.follow_unarmed (harmed : c.armed = false) (ha : current < st.a) : st.follow current c = c := by
  simp [Stage.follow, harmed, Nat.not_le.mpr ha]

theorem Stage.follow_arms (harmed : c.armed = false) (ha : st.a ≤ current) :
    st.follow current c = { c with armed := true, max := current, run := 0 } := by
  simp [Stage.follow, harmed, ha]

theorem Stage.follow_maximum (harmed : c.armed = true) (hmax : c.max < current) :
    st.follow current c = { c with max := current, run := 0 } := by
  simp [Stage.follow, harmed, hmax]

theorem Stage.follow_descent (harmed : c.armed = true) (hmax : current ≤ c.max) (hdepth : current + st.depth ≤ c.max) :
    st.follow current c = { c with run := c.run + 1 } := by
  simp [Stage.follow, harmed, Nat.not_lt.mpr hmax, hdepth]

theorem Stage.follow_noDescent (harmed : c.armed = true) (hmax : current ≤ c.max) (hdepth : c.max < current + st.depth) :
    st.follow current c = { c with run := 0 } := by
  simp [Stage.follow, harmed, Nat.not_lt.mpr hmax, Nat.not_le.mpr hdepth]

end

/-! ## The walk -/

/-- A stage's work on a sample leaves the walk where it is. -/
theorem Stage.takeSample_walk (st : Stage) (limit current : Nat) (c : Checker) :
    (st.takeSample limit current c).1.stage = c.stage
      ∧ (st.takeSample limit current c).1.condition = c.condition := by
  cases h : st.kind with
  | wait =>
    rw [Stage.takeSample_wait h]
    exact ⟨rfl, rfl⟩
  | rise =>
    rw [Stage.countsRuns_rise h]
    exact ⟨rfl, rfl⟩
  | dip =>
    rcases Nat.lt_or_ge current limit with hlimit | hlimit
    · rw [Stage.takeSample_dip h hlimit rfl]
      exact (st.follow_kept current { c with j := c.j + 1 }).2
    · rw [Stage.takeSample_dip_limit h hlimit]
      exact ⟨rfl, rfl⟩
  | band =>
    rw [Stage.countsRuns_band h]
    exact ⟨rfl, rfl⟩

/-- The cause of a failure, where a stage has failed. -/
def StageResult.cause : StageResult → Option Cause
  | .fail cause => some cause
  | _ => none

/-- A checker with an open stage: the stage takes the sample, and the walk goes on by what it decides (R58). -/
theorem Checker.step_of_open {c : Checker} {stages : List Stage} {st : Stage}
    (hc : c.condition = .idle ∨ c.condition = .walking) (hst : stages[c.stage]? = some st) (limit current : Nat) :
    c.step stages limit current =
      let out := st.takeSample limit current { c with condition := .walking }
      (out.1.advance stages.length out.2, out.2.cause) := by
  unfold Checker.step
  rcases hc with hc | hc <;> rw [hc, hst] <;> rfl

/-- A checker either takes no sample or has an open stage. -/
theorem Checker.step_cases (c : Checker) (stages : List Stage) (limit current : Nat) :
    c.step stages limit current = (c, none)
      ∨ ∃ st, (c.condition = .idle ∨ c.condition = .walking) ∧ stages[c.stage]? = some st := by
  cases hc : c.condition with
  | done => exact .inl (Checker.step_of_over (.inl hc) ..)
  | failed => exact .inl (Checker.step_of_over (.inr hc) ..)
  | idle | walking =>
    cases hst : stages[c.stage]? with
    | none => exact .inl (by unfold Checker.step; rw [hc, hst])
    | some st => exact .inr ⟨st, by simp, rfl⟩

/-- The walk gets at most one stage further, and becomes DONE at its last stage alone (R61). -/
theorem Checker.advance_reach {c : Checker} (h : c.condition ≠ .done) (stageCount : Nat) (result : StageResult) :
    ((c.advance stageCount result).condition = .done → c.stage + 1 = stageCount)
      ∧ (c.advance stageCount result).stage ≤ c.stage + 1 := by
  match result with
  | .open => exact ⟨fun hd => absurd hd h, Nat.le_succ _⟩
  | .fail cause => exact ⟨nofun, Nat.le_succ _⟩
  | .pass =>
    unfold Checker.advance
    dsimp only
    split
    next hlast => exact ⟨fun _ => hlast, Nat.le_succ _⟩
    next => exact ⟨nofun, Nat.le_refl _⟩

/-- So it does at a sample. -/
theorem Checker.step_reach {c : Checker} (h : c.condition ≠ .done) (stages : List Stage) (limit current : Nat) :
    ((c.step stages limit current).1.condition = .done → c.stage + 1 = stages.length)
      ∧ (c.step stages limit current).1.stage ≤ c.stage + 1 := by
  rcases c.step_cases stages limit current with hsame | ⟨st, hc, hst⟩
  · rw [hsame]
    exact ⟨fun hd => absurd hd h, Nat.le_succ _⟩
  · obtain ⟨hstage, hcondition⟩ := st.takeSample_walk limit current { c with condition := .walking }
    have hreach (result : StageResult) := Checker.advance_reach
      (by rw [hcondition]; nofun : (st.takeSample limit current _).1.condition ≠ .done) stages.length result
    simp only [hstage] at hreach
    rw [Checker.step_of_open hc hst]
    exact hreach _

/-- A walk that is over stays as it is. -/
theorem Checker.over_of_done {c : Checker} (h : c.condition = .done) (stages : List Stage) (samples : List (Nat × Nat)) :
    Checker.over stages c samples = c := by
  induction samples with
  | nil => rfl
  | cons x rest ih => rw [Checker.over, Checker.step_of_over (.inl h), ih]

/-- A walk that reaches DONE takes a sample at each stage from the open one on (R61). -/
theorem Checker.stages_le_of_done (stages : List Stage) (samples : List (Nat × Nat)) :
    ∀ c : Checker, c.condition ≠ .done → (Checker.over stages c samples).condition = .done →
      stages.length ≤ c.stage + samples.length := by
  induction samples with
  | nil => exact fun c h hdone => absurd hdone h
  | cons x rest ih =>
    intro c h hdone
    obtain ⟨limit, current⟩ := x
    obtain ⟨hlast, hnext⟩ := Checker.step_reach h stages limit current
    rw [List.length_cons]
    by_cases hd : (c.step stages limit current).1.condition = .done
    · have := hlast hd
      omega
    · have := ih _ hd hdone
      omega

end Sys2Proof.Machine
end

section
/-!
PROOFS. The four kinds of stage (O20 to O22) and the walk of the signature checker (O23).
-/

namespace Sys2Proof.Machine

/-- Settles O21: a RISE stage passes, and a BAND stage fails, by the count that `Stage.CountsRuns` speaks of. -/
theorem riseAndBandStagesJudgeRunsOfSamples : Obligations.RiseAndBandStagesJudgeRunsOfSamples := by
  intro st limit c samples hj hrun hdd hwindow
  exact ⟨fun h => (Stage.countsRuns_rise h limit).over_opened nofun nofun nofun hj hrun hdd hwindow samples,
    fun h => (Stage.countsRuns_band h limit).over_opened nofun nofun nofun hj hrun hdd hwindow samples⟩

/-- Settles O22: the LIMIT test, then the case of `Stage.follow` that the sample falls under. -/
theorem dipStageFollowsThePeakAndCountsTheDescent : Obligations.DipStageFollowsThePeakAndCountsTheDescent := by
  intro st limit current c h out depth undecided
  have hout {c' : Checker} (hlimit : current < limit) (hfollow : st.follow current { c with j := c.j + 1 } = c') :
      out = (c', if c.armed = true ∧ c'.run = st.dd then .pass else undecided) := Stage.takeSample_dip h hlimit hfollow
  have hunarmed (harmed : c.armed = false) (run : Nat) : ¬ (c.armed = true ∧ run = st.dd) := by simp [harmed]
  have hreset (hdd : 1 ≤ st.dd) : ¬ (c.armed = true ∧ 0 = st.dd) := by omega
  refine ⟨Stage.takeSample_dip_limit h, fun hlimit harmed ha => ?_, fun hlimit harmed ha => ?_,
    fun hlimit harmed hmax => ?_, fun hlimit harmed hmax hdepth => ?_, fun hlimit harmed hmax hdepth => ?_⟩
  · rw [hout hlimit (Stage.follow_unarmed harmed ha), if_neg (hunarmed harmed _)]
  · rw [hout hlimit (Stage.follow_arms harmed ha), if_neg (hunarmed harmed _)]
  · rw [hout hlimit (Stage.follow_maximum harmed hmax)]
    exact ⟨rfl, fun hdd => if_neg (hreset hdd)⟩
  · rw [hout hlimit (Stage.follow_descent harmed hmax hdepth)]
    simp only [harmed, true_and]
  · rw [hout hlimit (Stage.follow_noDescent harmed hmax hdepth)]
    exact ⟨rfl, fun hdd => if_neg (hreset hdd)⟩

/-- Settles O23: a sample is the open stage's work and the walk's advance; the bound on samples is `Checker.stages_le_of_done`. -/
theorem checkerWalksItsStagesInOrder : Obligations.CheckerWalksItsStagesInOrder := by
  refine ⟨fun stages limit current c st hc hst => ?_, fun stages limit current c hc => Checker.step_of_over hc ..,
    fun stages samples hdone => ?_⟩
  · intro out
    have hstep : c.step stages limit current = _ := Checker.step_of_open hc hst limit current
    have hstage : out.1.stage = c.stage := (st.takeSample_walk ..).1
    refine ⟨fun hopen => ?_, fun hpass hlast => ?_, fun hpass hmore => ?_, fun cause hfail => ?_⟩
    all_goals rw [hstep]; dsimp only
    · rw [show (st.takeSample limit current _).2 = _ from hopen]
      rfl
    · rw [show (st.takeSample limit current _).2 = _ from hpass, Checker.advance, hstage, if_pos hlast]
      rfl
    · rw [show (st.takeSample limit current _).2 = _ from hpass, Checker.advance, hstage, if_neg (by omega)]
      rfl
    · rw [show (st.takeSample limit current _).2 = _ from hfail]
      rfl
  · simpa [Checker.initial] using Checker.stages_le_of_done stages samples Checker.initial (by decide) hdone

/-- Settles O20: each clause is read off the sample of a WAIT stage. -/
theorem waitStagePassesAtItsWindow : Obligations.WaitStagePassesAtItsWindow := by
  intro st limit current c h
  have hwait := Stage.takeSample_wait h limit current c
  rw [hwait]
  refine ⟨rfl, ?_, fun cause => ?_, fun limit' current' a b dd => ?_, fun hwindow hj => ?_⟩
  · dsimp only
    split <;> simp [*]
  · dsimp only
    split <;> nofun
  · exact Stage.takeSample_wait (st := { st with a := a, b := b, dd := dd }) h limit' current' c
  · exact if_pos (by omega)

end Sys2Proof.Machine
end

section
/-!
PROOFS. PAIR (O46): what a taken PAIR leaves of channels, pairs and the two slots, and its refusals in order.
-/

namespace Sys2Proof.Machine

/-! ## What a taken PAIR leaves -/

/-- One update of both channels of a pair. -/
theorem State.channel_modBoth (s : State) (pr : Fin 4) (f : Channel → Channel) (c : Fin 8) :
    ((s.modChannel (lowerOf pr) f).modChannel (upperOf pr) f).channel c =
      if c = lowerOf pr ∨ c = upperOf pr then f (s.channel c) else s.channel c := by
  rw [State.channel_modChannel, State.channel_modChannel_ne _ f (lowerOf_ne_upperOf _ _).symm, State.channel_modChannel]
  by_cases hupper : c = upperOf pr
  · rw [if_pos hupper, if_pos (.inr hupper), hupper]
  · rw [if_neg hupper]
    by_cases hlower : c = lowerOf pr
    · rw [if_pos hlower, if_pos (.inl hlower), hlower]
    · rw [if_neg hlower, if_neg (not_or.mpr ⟨hlower, hupper⟩)]

section
variable (s : State) (pr : Fin 4) (mode : PairMode)

/-- The pair's converters restart where it newly enters GANG or DUAL, and its trip counts become 0 (R135). -/
theorem State.channel_setPair (c : Fin 8) :
    (s.setPair pr mode).channel c =
      { s.channel c with
        tripCount := if c = lowerOf pr ∨ c = upperOf pr then 0 else (s.channel c).tripCount
        conversion :=
          if (c = lowerOf pr ∨ c = upperOf pr) ∧ mode ≠ .separate ∧ mode ≠ (s.pair pr).mode then 0
          else (s.channel c).conversion } := by
  have hmoded : ((s.releaseBinding (upperOf pr)).modPair pr fun _ => { mode := mode, rails := none }).channel c =
      s.channel c := by
    rw [State.releaseBinding_frame]
    rfl
  unfold State.setPair
  dsimp only
  generalize (s.releaseBinding (upperOf pr)).modPair pr (fun _ => _) = u at hmoded ⊢
  rw [apply_ite (fun v : State => v.channel c), State.channel_modSlot, ite_self, State.channel_modBoth,
    apply_ite (fun v : State => v.channel c), State.channel_modBoth, hmoded]
  by_cases hc : c = lowerOf pr ∨ c = upperOf pr
  · rw [if_pos hc, if_pos hc, if_pos hc]
    by_cases henters : mode ≠ .separate ∧ mode ≠ (s.pair pr).mode
    · rw [if_pos henters, if_pos ⟨hc, henters⟩]
      rfl
    · rw [if_neg henters, if_neg fun h => henters h.2]
  · rw [if_neg hc, if_neg hc, if_neg hc, ite_self, if_neg fun h => hc h.1]

theorem State.pair_setPair (q : Fin 4) :
    (s.setPair pr mode).pair q = if q = pr then { mode := mode, rails := none } else s.pair q := by
  obtain ⟨u, hu, e⟩ := s.setPair_split pr mode
  have hpair : (s.setPair pr mode).pair q = u.pair q := by
    rw [e]
    split <;> rfl
  have hrelease : (s.releaseBinding (upperOf pr)).pair q = s.pair q := by
    rw [State.releaseBinding_frame]
    rfl
  have hu' : u.pair q = ((s.releaseBinding (upperOf pr)).modPair pr fun _ => { mode := mode, rails := none }).pair q := by
    rw [hu]
    rfl
  rw [hpair, hu', State.pair_modPair, hrelease]

theorem State.setPair_frame :
    s.setPair pr mode =
      { s with
        slots := (s.setPair pr mode).slots, channels := (s.setPair pr mode).channels
        pairs := (s.setPair pr mode).pairs, profiles := (s.setPair pr mode).profiles } := by
  obtain ⟨u, hu, e⟩ := s.setPair_split pr mode
  rw [State.releaseBinding_frame] at hu
  rw [e, hu]
  split <;> rfl

end

/-! ## The command -/

theorem pairTarget_eq_none {target : Nibble} (h : 4 ≤ target.toNat) : pairTarget target = none :=
  dif_neg (Nat.not_lt.mpr h)

theorem modeOf_eq_none {arg : Nibble} (h : 3 ≤ arg.toNat) : modeOf arg = none := by
  unfold modeOf
  split
  · omega
  · omega
  · omega
  · rfl

/-- A PAIR that names a pair and a mode (R134, R135). -/
theorem cmdPair_eq {pr : Fin 4} {mode : PairMode} {arg : Nibble} (harg : modeOf arg = some mode) (p : Party) (s : State) :
    cmdPair p (pairField pr) arg s =
      if (s.slot (lowerOf pr)).holder ≠ p ∨ (s.slot (upperOf pr)).holder ≠ p then (s, Reply.bare .notHolder)
      else if ((s.restartHold p (lowerOf pr)).slot (lowerOf pr)).pairable
          && ((s.restartHold p (lowerOf pr)).slot (upperOf pr)).pairable then
        ((s.restartHold p (lowerOf pr)).setPair pr mode, Reply.bare .ok)
      else (s.restartHold p (lowerOf pr), Reply.bare .busy) := by
  unfold cmdPair
  rw [pairTarget_pairField, harg]
  rfl

theorem Slot.pairable_iff (sl : Slot) : sl.pairable = true ↔ sl.active.state = .idle ∧ sl.parked = none := by
  simp [Slot.pairable]

section
variable {s : State} {p : Party} {pr : Fin 4} {arg : Nibble} {mode : PairMode}

/-- A command of the holder of a lower slot reaches it. -/
theorem State.reaches_lowerOf (h : s.held = false) (hholder : (s.slot (lowerOf pr)).holder = p) :
    s.Reaches p (lowerOf pr) :=
  ⟨h, by rw [State.upperPaired, isUpper_lowerOf, Bool.false_and], hholder⟩

/-- A PAIR whose slots are not both IDLE with nothing parked is refused BUSY, the timer restarted (R134, R150). -/
theorem pair_refusedBusy (h : s.Reaches p (lowerOf pr)) (hupper : (s.slot (upperOf pr)).holder = p)
    (harg : modeOf arg = some mode) (hfree : ((s.slot (lowerOf pr)).pairable && (s.slot (upperOf pr)).pairable) = false) :
    ∃ t, exec (.pair p (pairField pr) arg) s = .next t ∧ s.Answered p .pair (pairField pr) .busy [] t
      ∧ t.slot (lowerOf pr) = { s.slot (lowerOf pr) with holdTimer := s.holdAfter p (lowerOf pr) }
      ∧ s.OnlySlot (lowerOf pr) t := by
  have hact : cmdPair p (pairField pr) arg s = (s.restartHold p (lowerOf pr), Reply.bare .busy) := by
    rw [cmdPair_eq harg, if_neg (by simp [h.2.2, hupper]), h.slot_restartHold,
      h.runsAt_restartHold.slot_ne (lowerOf_ne_upperOf _ _).symm]
    exact if_neg (Bool.eq_false_iff.mp hfree)
  obtain ⟨t, hexec, hans, ht⟩ := State.command_replies h.1 .pair hact h.runsAt_restartHold.portsKept
  refine ⟨t, hexec, hans, ?_, h.onlySlot_restartHold.ports ht⟩
  rw [State.OnlyPorts.slot ht, h.slot_restartHold]

/-- A PAIR that is carried out: what `State.setPair` has done after the timer's restart stands in the part. -/
theorem pair_completes (h : s.Reaches p (lowerOf pr)) (hupper : (s.slot (upperOf pr)).holder = p)
    (harg : modeOf arg = some mode) (hfree : ((s.slot (lowerOf pr)).pairable && (s.slot (upperOf pr)).pairable) = true) :
    ∃ t, exec (.pair p (pairField pr) arg) s = .next t ∧ s.Answered p .pair (pairField pr) .ok [] t
      ∧ ((s.restartHold p (lowerOf pr)).setPair pr mode).OnlyPorts t := by
  have hact : cmdPair p (pairField pr) arg s =
      ((s.restartHold p (lowerOf pr)).setPair pr mode, Reply.bare .ok) := by
    rw [cmdPair_eq harg, if_neg (by simp [h.2.2, hupper]), h.slot_restartHold,
      h.runsAt_restartHold.slot_ne (lowerOf_ne_upperOf _ _).symm]
    exact if_pos hfree
  have hports : s.PortsKept ((s.restartHold p (lowerOf pr)).setPair pr mode) := by
    rw [State.setPair_frame]
    exact h.runsAt_restartHold.portsKept
  exact State.command_replies h.1 .pair hact hports

end

/-- Settles O46: the refusals in their order, then the effect of a taken PAIR part by part. -/
theorem pairSetsTheMode : Obligations.PairSetsTheMode := by
  intro p target arg s h n
  refine ⟨fun hbad => State.command_refuses h .pair arg ?_, ?_⟩
  · unfold cmdPair
    rcases hbad with htarget | harg
    · rw [pairTarget_eq_none htarget]
      rfl
    · rw [modeOf_eq_none harg]
      cases pairTarget target <;> rfl
  rintro pr mode rfl harg x y both free
  have hmode : modeOf arg = some mode := by
    rw [harg]
    cases mode <;> rfl
  have hpairable : ((s.slot x).pairable && (s.slot y).pairable) = true ↔ free := by
    rw [Bool.and_eq_true, Slot.pairable_iff, Slot.pairable_iff]
    tauto
  refine ⟨fun hholder => State.command_refuses h .pair arg ?_, fun ⟨hx, hy⟩ hbusy => ?_, fun ⟨hx, hy⟩ hfree => ?_⟩
  · rw [cmdPair_eq hmode]
    exact if_pos (not_and_or.mp hholder)
  · exact pair_refusedBusy (State.reaches_lowerOf h hx) hy hmode (Bool.eq_false_iff.mpr (mt hpairable.mp hbusy))
  · have hr : s.Reaches p x := State.reaches_lowerOf h hx
    have hxy : y ≠ x := (lowerOf_ne_upperOf pr pr).symm
    obtain ⟨t, hexec, hans, ht⟩ := pair_completes hr hy hmode (hpairable.mpr hfree)
    have hrun := hr.runsAt_restartHold
    refine ⟨t, hexec, hans, ?_, fun q hq => ?_, ?_, ?_, fun j hjx hjy => ?_, fun q => ?_, fun c => ?_, ?_⟩
    · rw [State.OnlyPorts.pair ht, State.pair_setPair, if_pos rfl]
    · rw [State.OnlyPorts.pair ht, State.pair_setPair, if_neg hq, hrun.pair]
    · rw [State.OnlyPorts.slot ht, State.slot_setPair_ne _ _ _ hxy.symm, hr.slot_restartHold]
    · rw [State.OnlyPorts.slot ht, State.slot_setPair_upper, hrun.slot_ne hxy, hr.slot_restartHold]
      split
      · rfl
      · show (s.slot y).unbound.standAside (s.slot x).holder = _
        rw [hx.trans hy.symm]
        rfl
    · rw [State.OnlyPorts.slot ht, State.slot_setPair_ne _ _ _ hjy, hrun.slot_ne hjx]
    · rw [State.OnlyPorts.profile ht, State.profile_setPair, State.profile_releaseBinding, hrun.slot_ne hxy, hrun.profile]
    · rw [State.OnlyPorts.channel ht, State.channel_setPair, State.channel_restartHold, hrun.pair]
    · rw [ht, State.setPair_frame, State.restartHold_frame]

end Sys2Proof.Machine
end

section
/-!
PROOFS. The arithmetic of the reports: what each rounding mode gives (O18), and that a rounded ratio stays between whole bounds of
the ratio.
-/

namespace Sys2Proof.Machine

/-! ## The rounding modes -/

/-- A ratio's quotient and remainder. -/
theorem quotient_add_remainder (num : Int) {den : Nat} (h : den ≠ 0) :
    num / den * den + num % den = num ∧ 0 ≤ num % den ∧ num % den < den :=
  ⟨Int.ediv_mul_add_emod num den, Int.emod_nonneg _ (by omega), Int.emod_lt_of_pos _ (by omega)⟩

/-- Every mode gives the quotient, or the whole number above it where the ratio is not whole. -/
theorem roundRatio_cases (m : Rounding) (num : Int) {den : Nat} (h : den ≠ 0) :
    roundRatio m num den = num / den ∨ (num % den ≠ 0 ∧ roundRatio m num den = num / den + 1) := by
  unfold roundRatio
  dsimp only
  cases m <;> dsimp only
  case down => exact .inl rfl
  case up =>
    split
    · exact .inl rfl
    · exact .inr ⟨by assumption, rfl⟩
  case zero =>
    split
    · exact .inl rfl
    · exact .inr ⟨by tauto, rfl⟩
  case nearestEven =>
    split
    · exact .inl rfl
    split
    · exact .inr ⟨by omega, rfl⟩
    split
    · exact .inl rfl
    · exact .inr ⟨by omega, rfl⟩

/-- Rounding does not leave the whole numbers that bound a ratio. -/
theorem roundRatio_bounds (m : Rounding) {num lo hi : Int} {den : Nat} (h : den ≠ 0) (hlo : lo * den ≤ num)
    (hhi : num ≤ hi * den) : lo ≤ roundRatio m num den ∧ roundRatio m num den ≤ hi := by
  obtain ⟨hparts, hrest, -⟩ := quotient_add_remainder num h
  have hpos : (0 : Int) < den := by omega
  have hfloor : lo ≤ num / den := (Int.le_ediv_iff_mul_le hpos).mpr hlo
  rcases roundRatio_cases m num h with e | ⟨hne, e⟩ <;> rw [e]
  · exact ⟨hfloor, le_of_mul_le_mul_right (by omega) hpos⟩
  · have hlt : num / den < hi := lt_of_mul_lt_mul_right (by omega) hpos.le
    omega

/-- A whole ratio is unchanged. -/
theorem roundRatio_whole (m : Rounding) (q : Int) {den : Nat} (h : den ≠ 0) : roundRatio m (q * den) den = q := by
  obtain ⟨hlow, hhigh⟩ := roundRatio_bounds m h (le_refl (q * den)) le_rfl
  omega

theorem roundRatio_down_spec (num : Int) {den : Nat} (h : den ≠ 0) :
    roundRatio .down num den * den ≤ num ∧ num < (roundRatio .down num den + 1) * den := by
  obtain ⟨hparts, hrest, hlt⟩ := quotient_add_remainder num h
  show num / den * den ≤ num ∧ num < (num / den + 1) * den
  rw [add_mul]
  omega

theorem roundRatio_up_spec (num : Int) {den : Nat} (h : den ≠ 0) :
    (roundRatio .up num den - 1) * den < num ∧ num ≤ roundRatio .up num den * den := by
  obtain ⟨hparts, hrest, hlt⟩ := quotient_add_remainder num h
  show ((if num % den = 0 then num / den else num / den + 1) - 1) * den < num
    ∧ num ≤ (if num % den = 0 then num / den else num / den + 1) * den
  split
  · rw [sub_mul]
    omega
  · rw [add_sub_cancel_right, add_mul]
    omega

theorem roundRatio_zero_of_nonneg {num : Int} (hnum : 0 ≤ num) (den : Nat) :
    roundRatio .zero num den = roundRatio .down num den :=
  if_pos (.inr hnum)

theorem roundRatio_zero_of_nonpos {num : Int} (hnum : num ≤ 0) (den : Nat) :
    roundRatio .zero num den = roundRatio .up num den := by
  refine if_congr ⟨fun h => h.elim id fun hge => ?_, .inl⟩ rfl rfl
  rw [le_antisymm hnum hge, Int.zero_emod]

/-- NEAREST-EVEN gives a nearest whole number, and the even one of two. -/
theorem roundRatio_nearestEven_spec (num : Int) {den : Nat} (h : den ≠ 0) :
    2 * (num - roundRatio .nearestEven num den * den).natAbs ≤ den
      ∧ (2 * (num - roundRatio .nearestEven num den * den).natAbs = den → roundRatio .nearestEven num den % 2 = 0) := by
  obtain ⟨hparts, hrest, hlt⟩ := quotient_add_remainder num h
  have hbelow : num - num / den * den = num % den := by omega
  have habove : num - (num / den + 1) * den = num % den - den := by rw [add_mul]; omega
  unfold roundRatio
  dsimp only
  split
  · rw [hbelow]
    omega
  split
  · rw [habove]
    omega
  split
  · rw [hbelow]
    omega
  · rw [habove]
    omega

/-- Settles O18: each mode by the remainder of the ratio. -/
theorem roundingModesRoundAsTheirNamesSay : Obligations.RoundingModesRoundAsTheirNamesSay := by
  intro num den h
  obtain ⟨hnearest, heven⟩ := roundRatio_nearestEven_spec num h
  refine ⟨roundRatio_down_spec num h, roundRatio_up_spec num h, fun hnum => roundRatio_zero_of_nonneg hnum den,
    fun hnum => roundRatio_zero_of_nonpos hnum den, hnearest, heven, fun m q hq => ?_⟩
  rw [hq, roundRatio_whole m q h]

end Sys2Proof.Machine
end

section
/-!
PROOFS. Summaries and reads: the summary that an on-phase leaves and where it is filed (O24), and what SUMMARY-READ and EV-PEEK
report (O37).
-/

namespace Sys2Proof.Machine

/-! ## The fields of a summary -/

theorem driftExceeds_iff (drift : Option Int) (limit : Nat) :
    driftExceeds drift limit = true ↔ ∃ d, drift = some d ∧ limit ≠ 0 ∧ limit < d.natAbs := by
  cases drift <;> simp [driftExceeds]

theorem ratioWhole_eq_false (num : Int) (den : Nat) : ratioWhole num den = false ↔ ¬ (den : Int) ∣ num := by
  rw [ratioWhole, decide_eq_false_iff_not, Int.dvd_iff_emod_eq_zero]

/-- The exact value of a valid converted field is not whole (R87). -/
theorem inexactOf_iff (sum n sdiv : Nat) (invCharge : Bool) (baseline : Option Nat) :
    inexactOf sum n sdiv invCharge baseline = true ↔
      (n ≠ 0 ∧ ¬ n ∣ sum)
      ∨ (invCharge = false ∧ ¬ 100000000 ∣ sum * 4 * (sdiv + 1))
      ∨ ∃ b, baseline = some b ∧ n ≠ 0 ∧ ¬ ((16 * n : Nat) : Int) ∣ (16 * (sum : Int) - (b : Int) * (n : Int)) := by
  have hmean : ratioWhole sum n = false ↔ ¬ n ∣ sum := by
    rw [ratioWhole_eq_false, Int.natCast_dvd_natCast]
  have hcharge : ratioWhole (chargeNumerator sum sdiv) chargeDenominator = false ↔
      ¬ 100000000 ∣ sum * 4 * (sdiv + 1) := by
    rw [ratioWhole_eq_false, Int.natCast_dvd_natCast]
    rfl
  have hdrift (b : Nat) : ratioWhole (driftNumerator sum n b) (16 * n) = false ↔
      ¬ ((16 * n : Nat) : Int) ∣ (16 * (sum : Int) - (b : Int) * (n : Int)) := ratioWhole_eq_false ..
  unfold inexactOf
  cases baseline with
  | none => simp [hmean, hcharge]
  | some b => simp [hmean, hcharge, hdrift, or_assoc]

/-! ## Where a summary goes -/

theorem Slot.raiseDrift_eq (sl : Slot) (m : Summary) : sl.raiseDrift m = if m.drifted then sl.raise .drift else sl := rfl

/-- A formed summary is filed by the slot with the shifted context, DRIFT raised where it exceeds. -/
theorem Slot.formSummary_eq (sl : Slot) (env : Env) (v : Verdict) (last : Bool) :
    sl.formSummary env v last =
      let m := summaryOf env sl.holder sl.active v last
      (({ sl with active := sl.active.shiftSummary m } : Slot).raiseDrift m).fileSummary m := by
  unfold Slot.formSummary
  dsimp only
  rw [Slot.raiseDrift_eq, Slot.raiseDrift_eq]
  split <;> rfl

section
variable {sl : Slot} {m : Summary}

theorem Slot.fileSummary_unnoted (h : m.notable = false) : sl.fileSummary m = sl :=
  if_neg (Bool.eq_false_iff.mp h)

theorem Slot.fileSummary_valid (h : m.notable = true) (hu : m.unmaskedInvalid sl.active.conv = false) :
    sl.fileSummary m = sl.push m.toRecord :=
  (if_pos h).trans (if_neg (Bool.eq_false_iff.mp hu))

theorem Slot.fileSummary_withholds (h : m.notable = true) (hu : m.unmaskedInvalid sl.active.conv = true)
    (hw : sl.withheld = none) : sl.fileSummary m = ({ sl with withheld := some m } : Slot).raise .conv := by
  refine ((if_pos h).trans (if_pos hu)).trans ?_
  rw [hw]

theorem Slot.fileSummary_pending (h : m.notable = true) (hu : m.unmaskedInvalid sl.active.conv = true)
    (hw : sl.withheld ≠ none) : sl.fileSummary m = (sl.push m.toRecord).raise .conv := by
  obtain ⟨x, hx⟩ := Option.ne_none_iff_exists'.mp hw
  refine ((if_pos h).trans (if_pos hu)).trans ?_
  rw [hx]

end

theorem Slot.raiseDrift_kept (sl : Slot) (m : Summary) :
    (sl.raiseDrift m).active = sl.active ∧ (sl.raiseDrift m).withheld = sl.withheld := by
  rw [Slot.raiseDrift_eq]
  split <;> exact ⟨rfl, rfl⟩

/-- Settles O24: the summary's fields are read off `summaryOf`, and it goes where `Slot.fileSummary` files it. -/
theorem summaryIsFormedShiftedAndFiled : Obligations.SummaryIsFormedShiftedAndFiled := by
  refine ⟨fun _ => rfl, fun sl env verdict last => ?_⟩
  intro c out
  have hactive : out.active = c.shiftSummary (summaryOf env sl.holder c verdict last) :=
    sl.formSummary_active env verdict last
  refine ⟨summaryOf env sl.holder c verdict last, ?_, ?_, rfl, rfl, rfl, rfl, rfl, rfl, rfl, rfl, rfl,
    decide_eq_true_iff, if_congr decide_eq_true_iff rfl rfl, decide_eq_true_iff, rfl, rfl, driftExceeds_iff ..,
    inexactOf_iff .., hactive, ?_⟩
  · rw [hactive]
    rfl
  · rw [hactive]
    rfl
  intro before drifted unmasked notable
  have hout : out = drifted.fileSummary (summaryOf env sl.holder c verdict last) := by
    have hformed := sl.formSummary_eq env verdict last
    dsimp only at hformed
    rw [← sl.formSummary_active] at hformed
    exact hformed
  obtain ⟨hkept, hwithheld⟩ := before.raiseDrift_kept (summaryOf env sl.holder c verdict last)
  have hconv : drifted.active.conv = c.conv := by
    have hkept' : drifted.active = out.active := hkept
    rw [hkept', hactive]
    rfl
  have hmasked {b : Bool} (hu : unmasked = b) :
      (summaryOf env sl.holder c verdict last).unmaskedInvalid drifted.active.conv = b := by
    rw [hconv]
    exact hu
  exact ⟨fun hn => hout.trans (Slot.fileSummary_unnoted hn),
    fun hn hu => hout.trans (Slot.fileSummary_valid hn (hmasked hu)),
    fun hn hu hw => hout.trans (Slot.fileSummary_withholds hn (hmasked hu) (hwithheld.trans hw)),
    fun hn hu hw => hout.trans (Slot.fileSummary_pending hn (hmasked hu) fun e => hw (hwithheld.symm.trans e))⟩

/-! ## SUMMARY-READ and EV-PEEK -/

/-- A read that names a slot is carried out for either party, with the hold timer restarted (R150). -/
theorem State.read_completes {s : State} {p : Party} {i : Fin 8} {act : State → State × Reply} {r : Reply}
    (h : s.held = false) (c : Cmd) (hact : act s = (s.restartHold p i, r)) :
    ∃ t, s.command p c (slotField i) act = .next t ∧ s.Answered p c (slotField i) r.status r.words t
      ∧ s.OnlyReadHold p i t := by
  have hports : s.PortsKept (s.restartHold p i) := by
    rw [s.restartHold_frame p i]
    exact ⟨rfl, rfl, rfl⟩
  obtain ⟨t, hexec, hans, ht⟩ := State.command_completes h c hact hports
  exact ⟨t, hexec, hans, State.onlyReadHold_restartHold ht⟩

/-- A baseline as SUMMARY-READ gives it (R101). -/
def baselineReply : Option Nat → Reply
  | none => Reply.bare .empty
  | some b => Reply.report [field 20 0 b]

/-- What SUMMARY-READ gives of a context, by its argument (R101). -/
def Context.summaryReport (c : Context) : Nat → Reply
  | 0 => summaryReply c.latest
  | 1 => summaryReply c.previous
  | _ => baselineReply c.baseline

theorem cmdSummaryRead_eq {arg : Nibble} (harg : arg.toNat < 3) (p : Party) (i : Fin 8) (s : State) :
    cmdSummaryRead p (slotField i) arg s = (s.restartHold p i, (s.slot i).active.summaryReport arg.toNat) := by
  have hactive : ((s.restartHold p i).slot i).active = (s.slot i).active := by rw [State.slot_restartHold]
  unfold cmdSummaryRead
  rw [if_neg (Nat.not_le.mpr harg), State.onAnySlot_slot]
  dsimp only
  rw [hactive]
  obtain _ | _ | n := arg.toNat
  · rfl
  · rfl
  · unfold Context.summaryReport baselineReply
    cases (s.slot i).active.baseline <;> rfl

theorem cmdEvPeek_eq (p : Party) (i depth : Fin 8) (s : State) :
    cmdEvPeek p (slotField i) (argField depth) s = (s.restartHold p i, (s.slot i).peekReply depth) := by
  unfold cmdEvPeek
  rw [slotOf_argField]
  dsimp only
  rw [State.onAnySlot_slot, State.slot_restartHold]
  rfl

/-- A baseline fits its 20 bits. -/
theorem field_baseline {b : Nat} (h : b < 1048576) : field 20 0 b = BitVec.ofNat 32 b := by
  apply BitVec.eq_of_toNat_eq
  simp only [field, BitVec.toNat_shiftLeft, BitVec.toNat_setWidth, BitVec.toNat_ofNat, Nat.shiftLeft_zero]
  omega

/-- SUMMARY-READ gives what the context holds by its argument (R101). -/
theorem summaryRead_gives {s : State} (h : s.held = false) (p : Party) (i : Fin 8) {arg : Nibble}
    (harg : arg.toNat < 3) {r : Reply} (hr : (s.slot i).active.summaryReport arg.toNat = r) :
    ∃ t, exec (.summaryRead p (slotField i) arg) s = .next t
      ∧ s.Answered p .summaryRead (slotField i) r.status r.words t ∧ s.OnlyReadHold p i t :=
  State.read_completes h .summaryRead (hr ▸ cmdSummaryRead_eq harg p i s)

/-- EV-PEEK gives what the stack holds at a depth (R115). -/
theorem evPeek_gives {s : State} (h : s.held = false) (p : Party) (i depth : Fin 8) {r : Reply}
    (hr : (s.slot i).peekReply depth = r) :
    ∃ t, exec (.evPeek p (slotField i) (argField depth)) s = .next t
      ∧ s.Answered p .evPeek (slotField i) r.status r.words t ∧ s.OnlyReadHold p i t :=
  State.read_completes h .evPeek (hr ▸ cmdEvPeek_eq p i depth s)

theorem Slot.peekReply_valid {sl : Slot} {depth : Fin 8} (h : (sl.entryAt depth).tag = .valid) :
    sl.peekReply depth = Reply.report (sl.entryAt depth).record.words :=
  if_pos (decide_eq_true h)

theorem Slot.peekReply_empty {sl : Slot} {depth : Fin 8} (h : (sl.entryAt depth).tag = .empty) :
    sl.peekReply depth = { status := .empty, words := [0] } :=
  if_neg (by simp [Slot.validAt, h])

/-- Settles O37: each report is what the context, or the entry, holds; the reads change the hold timer alone. -/
theorem summaryReadAndEvPeekReport : Obligations.SummaryReadAndEvPeekReport := by
  intro p i s h c Gives
  have hread (arg : Nibble) (harg : arg.toNat < 3) (r : Reply) (hr : c.summaryReport arg.toNat = r) :
      Gives (.summaryRead p (slotField i) arg) .summaryRead r.status r.words := summaryRead_gives h p i harg hr
  have hpeek (depth : Fin 8) (r : Reply) (hr : (s.slot i).peekReply depth = r) :
      Gives (.evPeek p (slotField i) (argField depth)) .evPeek r.status r.words := evPeek_gives h p i depth hr
  refine ⟨fun m hm => ?_, fun hnone => ?_, fun m hm => ?_, fun hnone => ?_, fun b hb hfits => ?_, fun hnone => ?_,
    fun depth => ⟨fun hvalid => ?_, fun hempty => ?_⟩⟩
  · exact hread 0 (by decide) (summaryReply (some m)) (congrArg summaryReply hm)
  · exact hread 0 (by decide) (summaryReply none) (congrArg summaryReply hnone)
  · exact hread 1 (by decide) (summaryReply (some m)) (congrArg summaryReply hm)
  · exact hread 1 (by decide) (summaryReply none) (congrArg summaryReply hnone)
  · rw [← field_baseline hfits]
    exact hread 2 (by decide) (baselineReply (some b)) (congrArg baselineReply hb)
  · exact hread 2 (by decide) (baselineReply none) (congrArg baselineReply hnone)
  · exact hpeek depth (Reply.report _) (Slot.peekReply_valid hvalid)
  · exact hpeek depth { status := .empty, words := [0] } (Slot.peekReply_empty hempty)

end Sys2Proof.Machine
end

section
/-!
SUPPORT. What a step can do to what a slot reports from, said once. A context's `Ledger` is its accumulators, baseline and
summaries; a slot besides keeps a withheld summary with CONV. An operation moves ledgers along a few ways (`Ledger.Goes`), ends an
on-phase with its summary, or drops the withheld summary (`Slot.Reports`).
-/

namespace Sys2Proof.Machine

/-! ## Ledgers -/

/-- What a context's reports are made of (R81 to R92): the accumulators, the baseline, Latest and Previous. -/
structure Ledger where
  n : Nat
  sum : Nat
  peak : Nat
  baseline : Option Nat
  latest : Option Summary
  previous : Option Summary

def Context.ledger (c : Context) : Ledger :=
  { n := c.n, sum := c.sum, peak := c.peak, baseline := c.baseline, latest := c.latest, previous := c.previous }

/-- The ledger of an on-phase that begins (R7, R80). -/
def Ledger.cleared (g : Ledger) : Ledger := { g with n := 0, sum := 0, peak := 0 }

/-- The ledger with a counted sample taken (R81). -/
def Ledger.counted (g : Ledger) (current : Nat) : Ledger :=
  { g with n := g.n + 1, sum := g.sum + current, peak := max g.peak current }

/-- The ways of a ledger between two summaries; `ok` holds of the input currents that are counted. -/
inductive Ledger.Goes (ok : Nat → Prop) (g g' : Ledger) : Prop
  | stands (h : g' = g)
  /-- An on-phase begins (R7). -/
  | clears (h : g' = g.cleared)
  /-- A run starts (R6). -/
  | starts (h : g' = { g.cleared with baseline := none })
  /-- A counted sample is taken (R81). -/
  | counts (current : Nat) (hok : ok current) (h : g' = g.counted current)
  /-- The context is a new one, in its reset condition (R1). -/
  | renews (h : g' = Context.reset.ledger)

/-! ## Slots -/

/-- What becomes of the ledgers of a slot and of its withheld summary. -/
inductive Slot.Reports (ok : Nat → Prop) : Slot → Slot → Prop
  /-- Each ledger has come from one of the slot's; the withheld summary and CONV stand. -/
  | moves {sl sl' : Slot} (hctx : ∀ c', sl'.Has c' → ∃ c, sl.Has c ∧ c.ledger.Goes ok c'.ledger)
      (hw : sl'.withheld = sl.withheld) (hf : sl'.flag .conv = sl.flag .conv) : Slot.Reports ok sl sl'
  /-- An on-phase ends and leaves its summary (R84). -/
  | forms {sl : Slot} {env : Env} {v : Verdict} {last : Bool} (hok : ok env.current) :
      Slot.Reports ok sl (sl.formSummary env v last)
  /-- The withheld summary goes, and CONV with it (R98, R21). -/
  | drops {sl sl' : Slot} (hctx : ∀ c', sl'.Has c' → ∃ c, sl.Has c ∧ c.ledger.Goes ok c'.ledger)
      (hw : sl'.withheld = none) (hf : sl'.flag .conv = false) : Slot.Reports ok sl sl'
  | trans {sl sl' sl'' : Slot} (h : Slot.Reports ok sl sl') (h' : Slot.Reports ok sl' sl'') : Slot.Reports ok sl sl''

section
variable {ok : Nat → Prop} {sl sl' : Slot}

/-- The active context's ledger goes its way beside the parked one. -/
theorem Slot.goes_active (ha : sl.active.ledger.Goes ok sl'.active.ledger) (hp : sl'.parked = sl.parked) :
    ∀ c', sl'.Has c' → ∃ c, sl.Has c ∧ c.ledger.Goes ok c'.ledger := by
  rintro c' (rfl | hc)
  · exact ⟨_, .inl rfl, ha⟩
  · exact ⟨c', .inr (hp ▸ hc), .stands rfl⟩

theorem Slot.reports_active (ha : sl.active.ledger.Goes ok sl'.active.ledger) (hp : sl'.parked = sl.parked)
    (hw : sl'.withheld = sl.withheld) (hf : sl'.flag .conv = sl.flag .conv) : sl.Reports ok sl' :=
  .moves (Slot.goes_active ha hp) hw hf

/-- Everything that reports are made of stands. -/
theorem Slot.reports_still (ha : sl'.active.ledger = sl.active.ledger) (hp : sl'.parked = sl.parked)
    (hw : sl'.withheld = sl.withheld) (hf : sl'.flag .conv = sl.flag .conv) : sl.Reports ok sl' :=
  Slot.reports_active (.stands ha) hp hw hf

theorem Slot.Reports.refl (sl : Slot) : sl.Reports ok sl := Slot.reports_still rfl rfl rfl rfl

end

/-! ## The CONV flag -/

theorem Slot.raise_flag_conv (sl : Slot) {k : SlotFault} (h : k ≠ .conv) :
    (sl.raise k).flag .conv = sl.flag .conv := by
  cases k with
  | conv => exact absurd rfl h
  | _ => simp [Slot.flag, Slot.raise, Marks.flag, Marks.raise, SlotFault.bit]

theorem Slot.raise_conv_flag (sl : Slot) : (sl.raise .conv).flag .conv = true := by
  simp [Slot.flag, Slot.raise, Marks.flag, Marks.raise, SlotFault.bit]

theorem Marks.flag_clear (n bit : Nat) : (Marks.clear n).flag bit = false := BitVec.getLsbD_zero

/-- The flags of a mask are cleared, the others stand. -/
theorem Marks.flag_clearFlags {n : Nat} (m : Marks n) (mask : BitVec n) {bit : Nat} (h : bit < n) :
    (m.clearFlags mask).flag bit = (m.flag bit && !mask.getLsbD bit) := by
  simp [Marks.clearFlags, Marks.flag, h]

@[simp] theorem Marks.flag_clearMarks {n : Nat} (m : Marks n) (p : Party) (mask : BitVec n) (bit : Nat) :
    (m.clearMarks p mask).flag bit = m.flag bit := by
  cases p <;> rfl

@[simp] theorem Slot.clearOpenFlag_flag_conv (sl : Slot) : sl.clearOpenFlag.flag .conv = sl.flag .conv := by
  have h := sl.faults.flag_clearFlags (BitVec.twoPow 7 SlotFault.opened.bit) (bit := SlotFault.conv.bit) (by decide)
  exact h.trans (Bool.and_true _)

/-! ## What the operations of a slot do -/

theorem Slot.failed_withheld (sl : Slot) (r : ProfileRecord) (current : Nat) (cause : Cause) :
    (sl.failed r current cause).withheld = sl.withheld ∧ (sl.failed r current cause).flag .conv = sl.flag .conv := by
  unfold Slot.failed
  rw [Slot.push_withheld, Slot.push_flag_conv, Slot.raise_flag_conv _ (by decide)]
  exact ⟨rfl, rfl⟩

/-- A counted sample leaves what neither the OPEN fault and its record nor the active context are part of. -/
theorem State.countedSlot_keeps {α : Type} {f : Slot → α} (hactive : ∀ (sl : Slot) c, f { sl with active := c } = f sl)
    (hcount : ∀ (sl : Slot) n, f { sl with openCount := n } = f sl)
    (hopened : ∀ (sl : Slot) r, f ((sl.raise .opened).push r) = f sl) (s : State) (i : Fin 8) :
    f (s.countedSlot i) = f (s.slot i) := by
  unfold State.countedSlot Slot.counted
  dsimp only
  rw [hactive, apply_ite f, hopened, hcount, ite_self]

theorem State.countedSlot_withheld (s : State) (i : Fin 8) :
    (s.countedSlot i).withheld = (s.slot i).withheld ∧ (s.countedSlot i).flag .conv = (s.slot i).flag .conv := by
  refine ⟨State.countedSlot_keeps (fun _ _ => rfl) (fun _ _ => rfl) (fun sl r => ?_) s i,
    State.countedSlot_keeps (f := fun sl => sl.flag .conv) (fun _ _ => rfl) (fun _ _ => rfl) (fun sl r => ?_) s i⟩
  · rw [Slot.push_withheld, Slot.raise_withheld]
  · rw [Slot.push_flag_conv, Slot.raise_flag_conv _ (by decide)]

section
variable {ok : Nat → Prop}

theorem Slot.reports_failed (sl : Slot) (r : ProfileRecord) (current : Nat) (cause : Cause) :
    sl.Reports ok (sl.failed r current cause) := by
  obtain ⟨hw, hf⟩ := sl.failed_withheld r current cause
  exact Slot.reports_still (by rw [Slot.failed_active]; rfl) (by simp) hw hf

theorem Slot.reports_closeWalk (sl : Slot) (env : Env) : sl.Reports ok (sl.closeWalk env) := by
  rw [Slot.closeWalk_eq]
  split
  · exact .refl sl
  · exact sl.reports_failed ..

theorem Slot.reports_beginOnPhase (sl : Slot) (r : ProfileRecord) (mode : PairMode) :
    sl.Reports ok (sl.beginOnPhase r mode) :=
  Slot.reports_active (.clears rfl) rfl rfl (Slot.clearOpenFlag_flag_conv _)

theorem State.reports_countedSlot {s : State} {i : Fin 8} (h : ok (s.inputCurrent i)) :
    (s.slot i).Reports ok (s.countedSlot i) := by
  obtain ⟨-, -, -, hp⟩ := s.countedSlot_kept i
  obtain ⟨hw, hf⟩ := s.countedSlot_withheld i
  exact Slot.reports_active (.counts _ h rfl) hp hw hf

/-- Summary, then D (R84, R10). -/
theorem State.reports_countedCycle {s : State} {i : Fin 8} (h : ok (s.inputCurrent i)) (v : Verdict) :
    (s.slot i).Reports ok (s.countedCycle i v) :=
  .trans (.forms (env := s.env i) h) (Slot.reports_still rfl rfl rfl rfl)

theorem freshContext_ledger (r : ProfileRecord) (c : Context) : (freshContext r c).ledger = Context.reset.ledger := by
  unfold freshContext
  split <;> rfl

/-- A new active context beside the parked one. -/
theorem Slot.reports_renewed (sl : Slot) {c : Context} (h : c.ledger = Context.reset.ledger) :
    sl.Reports ok { sl with active := c } :=
  Slot.reports_active (.renews h) rfl rfl rfl

/-- The rack's ledger is parked with its context (R148). -/
theorem Slot.reports_handOver (sl : Slot) (r : ProfileRecord) : sl.Reports ok (sl.handOver r) := by
  refine .moves (fun c' hc => ⟨_, .inl rfl, ?_⟩) rfl rfl
  rcases hc with rfl | hc
  · exact .renews (freshContext_ledger ..)
  · cases hc
    exact .stands rfl

/-- The parked ledger comes back with its context (R156). -/
theorem Slot.reports_restored {sl : Slot} {c : Context} (h : sl.parked = some c) :
    sl.Reports ok { sl with active := c, parked := none } := by
  refine .moves (fun c' hc => ⟨c, .inr h, ?_⟩) rfl rfl
  rcases hc with rfl | hc
  · exact .stands rfl
  · cases hc

theorem Slot.releaseWithheld_withheld (sl : Slot) :
    sl.releaseWithheld.withheld = none ∧ sl.releaseWithheld.flag .conv = sl.flag .conv := by
  unfold Slot.releaseWithheld
  split
  next h => exact ⟨h, rfl⟩
  next => rw [Slot.push_withheld, Slot.push_flag_conv]; exact ⟨rfl, rfl⟩

/-- Where a FAULT-READ clears CONV it releases the withheld summary (R166). -/
theorem Slot.reports_readFaults (sl : Slot) (p : Party) (mask : BitVec 7) (clears : Bool) :
    sl.Reports ok (sl.readFaults p mask clears) := by
  have hcleared : ((sl.faults.clearMarks p mask).clearFlags mask).flag SlotFault.conv.bit =
      (sl.flag .conv && !mask.getLsbD SlotFault.conv.bit) := by
    rw [Marks.flag_clearFlags _ _ (by decide), Marks.flag_clearMarks]
    rfl
  unfold Slot.readFaults
  cases clears with
  | false => exact Slot.reports_still rfl rfl rfl (Marks.flag_clearMarks ..)
  | true =>
    simp only [Bool.true_and, if_true]
    split
    next h =>
      rw [Bool.and_eq_true] at h
      obtain ⟨hactive, hparked⟩ :=
        Slot.releaseWithheld_kept { sl with faults := (sl.faults.clearMarks p mask).clearFlags mask }
      obtain ⟨hw, hf⟩ :=
        Slot.releaseWithheld_withheld { sl with faults := (sl.faults.clearMarks p mask).clearFlags mask }
      refine .drops (Slot.goes_active (.stands (congrArg Context.ledger hactive)) hparked) hw (hf.trans ?_)
      exact hcleared.trans (by rw [h.2]; simp)
    next h =>
      refine Slot.reports_still rfl rfl rfl (hcleared.trans ?_)
      revert h
      cases sl.flag .conv <;> cases mask.getLsbD SlotFault.conv.bit <;> simp

/-- A slot emptied of its active context and of what it withheld (R21, R1). -/
theorem Slot.reports_initialise (sl : Slot) : sl.Reports ok sl.initialise :=
  .drops (Slot.goes_active (.renews rfl) rfl) rfl (Marks.flag_clear 7 _)

theorem Slot.reports_atReset (sl : Slot) : sl.Reports ok sl.atReset := by
  refine .drops (fun c' hc => ⟨_, .inl rfl, ?_⟩) rfl (Marks.flag_clear 7 _)
  rcases hc with rfl | hc
  · exact .renews rfl
  · cases hc

end

end Sys2Proof.Machine
end

section
/-!
SUPPORT. What every command, event and step does to what each slot reports from (`State.Reports`), where the input currents it
counts and reports satisfy `ok`.
-/

namespace Sys2Proof.Machine

/-- What becomes of the ledgers and the withheld summary of every slot. -/
structure State.Reports (ok : Nat → Prop) (s t : State) : Prop where
  slot (i : Fin 8) : (s.slot i).Reports ok (t.slot i)

/-- Every input current as it stands satisfies `ok` (R59). -/
def State.CurrentsMeet (ok : Nat → Prop) (s : State) : Prop := ∀ i, ok (s.inputCurrent i)

section
variable {ok : Nat → Prop}

theorem State.Reports.refl (s : State) : s.Reports ok s := ⟨fun _ => .refl _⟩

theorem State.Reports.trans {s t u : State} (h : s.Reports ok t) (h' : t.Reports ok u) : s.Reports ok u :=
  ⟨fun i => .trans (h.slot i) (h'.slot i)⟩

theorem State.reports_of_slots {s t : State} (h : t.slots = s.slots) : s.Reports ok t := by
  refine ⟨fun i => ?_⟩
  simp only [State.slot, h]
  exact .refl _

/-- What is done before and leaves every slot does not count. -/
theorem State.Reports.after {s u t : State} (h : u.Reports ok t) (hs : u.slots = s.slots) : s.Reports ok t :=
  (State.reports_of_slots hs).trans h

theorem State.WorksAt.reports {i : Fin 8} {s t : State} (hw : State.WorksAt i s t)
    (hi : (s.slot i).Reports ok (t.slot i)) : s.Reports ok t := by
  obtain ⟨hslot, -⟩ := hw
  refine ⟨fun j => ?_⟩
  by_cases hj : j = i
  · exact hj ▸ hi
  · rw [hslot j hj]
    exact .refl _

theorem State.reports_modSlot {s : State} {i : Fin 8} {f : Slot → Slot} (h : (s.slot i).Reports ok (f (s.slot i))) :
    s.Reports ok (s.modSlot i f) :=
  (s.worksAt_modSlot i f).reports (by rw [State.slot_modSlot_self]; exact h)

theorem State.OnlyWires.reports {s t : State} (h : s.OnlyWires t) : s.Reports ok t := by
  rw [h]
  exact State.reports_of_slots rfl

theorem State.Reports.reply {s t : State} (h : s.Reports ok t) (st : Status) : s.Reports ok (t.reply st).1 := h

/-! ## Input currents -/

theorem State.RunsAt.currentsMeet {i : Fin 8} {s t : State} (h : State.RunsAt i s t) (hs : s.CurrentsMeet ok) :
    t.CurrentsMeet ok := fun j => by rw [h.inputCurrent]; exact hs j

theorem State.OnlyWires.currentsMeet {s t : State} (h : s.OnlyWires t) (hs : s.CurrentsMeet ok) : t.CurrentsMeet ok := by
  rw [h]
  exact hs

theorem State.currentsMeet_restartHold {s : State} (hs : s.CurrentsMeet ok) (p : Party) (i : Fin 8) :
    (s.restartHold p i).CurrentsMeet ok := by
  rw [s.restartHold_frame p i]
  exact hs

theorem State.inputCurrent_clearRails (s : State) (i j : Fin 8) :
    (s.clearRails i).inputCurrent j = s.inputCurrent j := by
  have hmode : (s.clearRails i).mode j = s.mode j := (s.ownWork_clearRails i).modes _
  simp only [State.inputCurrent, hmode]
  rfl

theorem State.currentsMeet_clearRails {s : State} (hs : s.CurrentsMeet ok) (i : Fin 8) :
    (s.clearRails i).CurrentsMeet ok := fun j => by rw [s.inputCurrent_clearRails]; exact hs j

/-! ## Holders, bindings, channels and pairs -/

theorem State.reports_clearTrips (s : State) (i : Fin 8) : s.Reports ok (s.clearTrips i) :=
  State.reports_of_slots (by rw [State.clearTrips_frame])

theorem State.reports_clearRails (s : State) (i : Fin 8) : s.Reports ok (s.clearRails i) := State.reports_of_slots rfl

theorem State.reports_restartHold (s : State) (p : Party) (i : Fin 8) : s.Reports ok (s.restartHold p i) := by
  refine ⟨fun j => ?_⟩
  rw [State.slot_restartHold]
  exact Slot.reports_still rfl rfl rfl rfl

theorem State.reports_setHolder (s : State) (i : Fin 8) (p : Party) : s.Reports ok (s.setHolder i p) := by
  refine ⟨fun j => ?_⟩
  rw [State.slot_setHolder]
  exact Slot.reports_still rfl rfl rfl rfl

theorem State.reports_releaseBinding (s : State) (i : Fin 8) : s.Reports ok (s.releaseBinding i) := by
  refine (s.worksAt_releaseBinding i).reports ?_
  rw [State.slot_releaseBinding, if_pos rfl]
  exact Slot.reports_still rfl rfl rfl rfl

theorem State.reports_bindTo (s : State) (i : Fin 8) (p : Fin 16) : s.Reports ok (s.bindTo i p) := by
  refine (s.worksAt_bindTo i p).reports ?_
  rw [State.slot_bindTo]
  exact Slot.reports_still rfl rfl rfl rfl

/-! ## The slot engine -/

theorem State.reports_enter (s : State) (i : Fin 8) (st : SlotState) (timer : Option Timer) (next : Option DrainNext) :
    s.Reports ok (s.modSlot i fun sl => sl.enter st timer next) :=
  State.reports_modSlot (Slot.reports_still rfl rfl rfl rfl)

theorem State.reports_beginOnPhase (s : State) (i : Fin 8) : s.Reports ok (s.beginOnPhase i) :=
  (State.reports_modSlot (Slot.reports_beginOnPhase ..)).trans (State.reports_clearTrips ..)

theorem State.reports_enterRest (s : State) (i : Fin 8) : s.Reports ok (s.enterRest i) := by
  unfold State.enterRest
  dsimp only
  split
  · exact s.reports_beginOnPhase i
  · exact s.reports_enter ..

theorem State.reports_resumeRun (s : State) (i : Fin 8) (hold : Bool) : s.Reports ok (s.resumeRun i hold) := by
  unfold State.resumeRun
  split
  · exact s.reports_enter ..
  split
  · exact s.reports_enter ..
  · exact s.reports_enterRest i

theorem State.reports_enterOffPhase (s : State) (i : Fin 8) : s.Reports ok (s.enterOffPhase i) := by
  rw [State.enterOffPhase_eq]
  split
  · exact s.reports_enter ..
  · exact s.reports_resumeRun i false

theorem State.reports_enterDrain (s : State) (i : Fin 8) (x : DrainNext) : s.Reports ok (s.enterDrain i x) :=
  s.reports_enter ..

theorem State.reports_continueDrain (s : State) (i : Fin 8) (x : DrainNext) : s.Reports ok (s.continueDrain i x) :=
  State.reports_modSlot (Slot.reports_still rfl rfl rfl rfl)

theorem State.reports_resumeSlot (s : State) (i : Fin 8) : s.Reports ok (s.resumeSlot i) := by
  rw [State.resumeSlot_eq]
  split
  · exact s.reports_resumeRun i false
  · exact .refl s

theorem State.reports_settleRestored (s : State) (i : Fin 8) : s.Reports ok (s.settleRestored i) := by
  rw [State.settleRestored_eq]
  split
  · exact s.reports_enter ..
  iterate 4 exact s.reports_resumeRun i _
  all_goals exact s.reports_enter ..

theorem State.reports_restore (s : State) (i : Fin 8) : s.Reports ok (s.restore i) := by
  unfold State.restore
  dsimp only
  refine (s.reports_releaseBinding i).trans ?_
  split
  · exact State.reports_modSlot (Slot.reports_renewed _ rfl)
  next h => exact (State.reports_modSlot (Slot.reports_restored h)).trans (State.reports_settleRestored ..)

theorem State.reports_bleedExpiry (s : State) (i : Fin 8) : s.Reports ok (s.bleedExpiry i) := by
  rw [State.bleedExpiry_eq]
  split
  · exact s.reports_resumeRun i false
  · exact .refl s

theorem State.reports_restExpiry (s : State) (i : Fin 8) : s.Reports ok (s.restExpiry i) := by
  unfold State.restExpiry
  split
  · exact s.reports_beginOnPhase i
  · exact .refl s

theorem State.reports_endOfLead (s : State) (i : Fin 8) : s.Reports ok (s.endOfLead i) := by
  unfold State.endOfLead
  split
  · exact State.reports_modSlot (Slot.reports_still rfl rfl rfl rfl)
  · exact .refl s

theorem State.reports_drainCompletion (s : State) (i : Fin 8) : s.Reports ok (s.drainCompletion i) := by
  unfold State.drainCompletion
  split
  · split
    · exact s.reports_enter ..
    · exact s.reports_restore i
    · exact s.reports_enter ..
    · exact s.reports_enter ..
  · exact .refl s

/-! ## The ends of on-phases, and samples -/

section
variable {s : State} (h : s.CurrentsMeet ok)
include h

theorem State.reports_abandonOnPhase (i : Fin 8) (v : Verdict) : s.Reports ok (s.abandonOnPhase i v) :=
  State.reports_modSlot (.forms (env := s.env i) (h i))

theorem State.reports_countOnPhase (i : Fin 8) (v : Verdict) : s.Reports ok (s.countOnPhase i v) := by
  rw [State.countOnPhase_eq]
  exact (State.reports_modSlot (State.reports_countedCycle (h i) v)).trans (State.reports_enterOffPhase ..)

theorem State.reports_onTimeExpiry (i : Fin 8) : s.Reports ok (s.onTimeExpiry i) := by
  unfold State.onTimeExpiry
  split
  · exact (State.reports_modSlot (Slot.reports_closeWalk ..)).trans
      (State.reports_countOnPhase ((s.runsAt_modSlot ..).currentsMeet h) ..)
  · exact .refl s

/-- A shelf hold at a slot leaves the input currents, so that the next slot finds them. -/
theorem State.reports_pauseSlot (i : Fin 8) :
    s.Reports ok (s.pauseSlot i) ∧ (s.pauseSlot i).CurrentsMeet ok := by
  have hentered (u : State) (hu : u.CurrentsMeet ok) (st : SlotState) :
      (u.modSlot i fun sl => sl.enter st none).CurrentsMeet ok := (u.runsAt_modSlot ..).currentsMeet hu
  unfold State.pauseSlot
  split
  · exact ⟨(State.reports_abandonOnPhase h ..).trans (State.reports_enter ..),
      hentered _ ((s.runsAt_abandonOnPhase ..).currentsMeet h) _⟩
  · exact ⟨s.reports_enter .., hentered s h _⟩
  · exact ⟨s.reports_enter .., hentered s h _⟩
  · exact ⟨(s.reports_enter ..).trans (State.reports_clearRails ..), State.currentsMeet_clearRails (hentered s h _) i⟩
  all_goals exact ⟨.refl s, h⟩

theorem State.reports_trip (i : Fin 8) (t : TripCheck) : s.Reports ok (s.trip i t) := by
  have hnoted : s.Reports ok ((s.recordTrip i t).clearTrips i) := by
    refine (State.reports_modSlot (Slot.reports_still ?_ ?_ ?_ ?_)).trans (State.reports_clearTrips ..)
    · rw [Slot.push_active, Slot.raise_active]
    · rw [Slot.push_parked, Slot.raise_parked]
    · rw [Slot.push_withheld, Slot.raise_withheld]
    · rw [Slot.push_flag_conv, Slot.raise_flag_conv _ (by decide)]
  have hcurrents : ((s.recordTrip i t).clearTrips i).CurrentsMeet ok :=
    ((s.runsAt_modSlot ..).trans (State.runsAt_clearTrips ..)).currentsMeet h
  unfold State.trip
  dsimp only
  refine (State.Reports.trans ?_ (State.reports_enterDrain _ i .faulted)).trans (State.reports_clearRails ..)
  split
  · exact hnoted.trans (State.reports_abandonOnPhase hcurrents ..)
  · exact hnoted

theorem State.reports_applyOnFail (i : Fin 8) : s.Reports ok (s.applyOnFail i) := by
  unfold State.applyOnFail
  split
  · exact .refl s
  · exact State.reports_countOnPhase h ..
  · exact (State.reports_abandonOnPhase h ..).trans (State.reports_enterDrain ..)

theorem State.reports_countedSample (i : Fin 8) : s.Reports ok (s.countedSample i) := by
  have hcounted := State.reports_countedSlot (h i)
  cases hout : (s.checkerOut i).2 with
  | none =>
    rw [State.countedSample_of_pass hout]
    exact State.reports_modSlot hcounted
  | some cause =>
    rw [State.countedSample_of_fail hout]
    exact (State.reports_modSlot (.trans hcounted (Slot.reports_failed ..))).trans
      (State.reports_applyOnFail ((s.runsAt_modSlot ..).currentsMeet h) i)

theorem State.reports_sampleAtSlot (i : Fin 8) : s.Reports ok (s.sampleAtSlot i) := by
  have hruns := s.runsAt_countTrips i (s.tripChecks i)
  have hcurrents := hruns.currentsMeet h
  have hchecked : s.Reports ok (s.countTrips (s.tripChecks i)) := ⟨fun j => by
    rw [State.slot_countTrips]
    exact .refl _⟩
  by_cases hs : (s.slot i).active.state = .runOn ∨ (s.slot i).active.state = .manual
  · rw [State.sampleAtSlot_of_fed hs]
    dsimp only
    refine hchecked.trans ?_
    split
    · exact State.reports_trip hcurrents i _
    split
    · exact State.reports_modSlot (Slot.reports_still rfl rfl rfl rfl)
    split
    · exact .refl _
    · exact State.reports_countedSample hcurrents i
  · rw [State.sampleAtSlot_of_unfed (fun e => hs (.inl e)) fun e => hs (.inr e)]
    exact .refl s

/-! ## Holds -/

theorem State.reports_takeSlot (i : Fin 8) : s.Reports ok (s.takeSlot i) := by
  have hgiven (u : State) (timer : Option Nat) :
      u.Reports ok ((((u.modSlot i fun sl => sl.handOver (u.activeRecord i)).clearRails i).setHolder i .bench).modSlot i
        fun sl => { sl with holdTimer := timer }) :=
    (((State.reports_modSlot (Slot.reports_handOver ..)).trans (State.reports_clearRails ..)).trans
      (State.reports_setHolder ..)).trans (State.reports_modSlot (Slot.reports_still rfl rfl rfl rfl))
  unfold State.takeSlot
  dsimp only
  split
  · exact (State.reports_abandonOnPhase h ..).trans (hgiven _ _)
  · exact hgiven s _

theorem State.reports_endBenchHold (i : Fin 8) : s.Reports ok (s.endBenchHold i) := by
  have hdrains (u : State) (timer : Option Timer) : u.Reports ok (u.drainToRestore i timer) :=
    (u.reports_releaseBinding i).trans (State.reports_modSlot (Slot.reports_renewed _ rfl))
  have hended : s.Reports ok (s.endBenchContext i) := by
    unfold State.endBenchContext
    dsimp only
    split
    · exact (State.reports_abandonOnPhase h ..).trans (hdrains _ _)
    · exact (hdrains s _).trans (State.reports_clearRails ..)
    · exact hdrains s _
    · exact hdrains s _
    all_goals exact s.reports_restore i
  exact (hended.trans (State.reports_setHolder ..)).trans
    (State.reports_modSlot (Slot.reports_still rfl rfl rfl rfl))

theorem State.reports_holdExpiry (i : Fin 8) : s.Reports ok (s.holdExpiry i) := by
  unfold State.holdExpiry
  split
  · exact (State.reports_endBenchHold h i).trans
      (State.reports_modSlot (Slot.reports_still rfl rfl rfl (Slot.raise_flag_conv _ (by decide))))
  · exact .refl s

/-! ## The shelf inputs -/

theorem State.reports_atEverySlot {f : State → Fin 8 → State}
    (hf : ∀ (u : State) i, u.CurrentsMeet ok → u.Reports ok (f u i) ∧ (f u i).CurrentsMeet ok) :
    s.Reports ok (s.atEverySlot f) := by
  unfold State.atEverySlot
  induction List.finRange 8 generalizing s with
  | nil => exact .refl s
  | cons i rest ih =>
    obtain ⟨hreports, hcurrents⟩ := hf s i h
    exact hreports.trans (ih hcurrents)

theorem State.reports_assertInput {set : State → State}
    (hset : ∀ u : State, u.CurrentsMeet ok → u.Reports ok (set u) ∧ (set u).CurrentsMeet ok) (k : PartFault)
    (already : Bool) : s.Reports ok (s.assertInput k already set) := by
  obtain ⟨hreports, hcurrents⟩ := hset (s.raisePart k) h
  have hraised : s.Reports ok (set (s.raisePart k)) := hreports.after rfl
  unfold State.assertInput
  dsimp only
  split
  · exact .refl s
  split
  · exact hraised
  · exact hraised.trans (State.reports_atEverySlot hcurrents fun u i hu => State.reports_pauseSlot hu i)

theorem State.reports_releaseInput {set : State → State}
    (hset : ∀ u : State, u.CurrentsMeet ok → u.Reports ok (set u) ∧ (set u).CurrentsMeet ok) :
    s.Reports ok (s.releaseInput set) := by
  obtain ⟨hreports, hcurrents⟩ := hset s h
  unfold State.releaseInput
  dsimp only
  split
  · refine hreports.trans (State.reports_atEverySlot hcurrents fun u i hu => ⟨u.reports_resumeSlot i, ?_⟩)
    rw [State.resumeSlot_eq]
    split
    · exact (u.runsAt_resumeRun i false).currentsMeet hu
    · exact hu
  · exact hreports

/-! ## Acceptance -/

theorem State.reports_onHeldSlot {act : Fin 8 → State → State × Reply}
    (hact : ∀ (i : Fin 8) (u : State), u.CurrentsMeet ok → u.Reports ok (act i u).1) (p : Party) (target : Nibble) :
    s.Reports ok (s.onHeldSlot p target act).1 := by
  rcases s.onHeldSlot_cases p target act with ⟨-, e⟩ | ⟨i, -, ⟨-, e⟩ | ⟨-, -, e⟩ | ⟨-, -, e⟩⟩ <;> rw [e]
  · exact .refl s
  · exact .refl s
  · exact .refl s
  · exact (s.reports_restartHold p i).trans (hact i _ (State.currentsMeet_restartHold h p i))

end

theorem State.reports_onAnySlot (s : State) (p : Party) (target : Nibble) (report : Fin 8 → State → Reply) :
    s.Reports ok (s.onAnySlot p target report).1 := by
  unfold State.onAnySlot
  split
  · exact .refl s
  · exact s.reports_restartHold p _

theorem State.reports_partWide {act : State → State × Reply} (hact : ∀ u : State, (act u).1.slots = u.slots) (s : State)
    (p : Party) : s.Reports ok (s.partWide p act).1 := by
  rcases s.partWide_cases p act with ⟨-, e⟩ | ⟨-, -, e⟩ | ⟨-, -, -, e⟩ <;> rw [e]
  · exact .refl s
  · exact .refl s
  · exact State.reports_of_slots (hact s)

/-! ## The slot commands -/

theorem State.reports_enterManual (s : State) (i : Fin 8) (rails : Option Rails) :
    s.Reports ok (s.enterManual i rails) := by
  refine (s.worksAt_enterManual i rails).reports ?_
  rw [State.slot_enterManual]
  exact Slot.reports_still rfl rfl rfl (Slot.clearOpenFlag_flag_conv _)

theorem reports_driveSlot (form : DriveForm) (i : Fin 8) (s : State) : s.Reports ok (driveSlot form i s).1 := by
  unfold driveSlot
  split
  · split
    · exact .refl s
    split
    · exact .refl s
    · exact s.reports_enterManual i _
  · exact s.reports_enterDrain i .idle
  · exact .refl s
  · exact State.reports_of_slots rfl
  · exact (s.reports_enterDrain i .idle).trans (State.reports_clearRails ..)
  · exact (s.reports_enter ..).trans (State.reports_clearRails ..)
  · exact .refl s

section
variable {s : State} (h : s.CurrentsMeet ok)
include h

theorem reports_cmdBind (p : Party) (target arg : Nibble) : s.Reports ok (cmdBind p target arg s).1 := by
  refine State.reports_onHeldSlot h (fun i u _ => ?_) p target
  split
  · exact .refl u
  split
  · exact .refl u
  · exact u.reports_bindTo i _

theorem reports_cmdUnbind (p : Party) (target arg : Nibble) : s.Reports ok (cmdUnbind p target arg s).1 := by
  refine State.reports_onHeldSlot h (fun i u _ => ?_) p target
  split
  · exact u.reports_releaseBinding i
  · exact u.reports_releaseBinding i
  · exact .refl u

/-- A run starts with neither sums nor a baseline (R6). -/
theorem reports_cmdStart (p : Party) (target arg : Nibble) : s.Reports ok (cmdStart p target arg s).1 := by
  refine State.reports_onHeldSlot h (fun i u _ => ?_) p target
  dsimp only
  repeat' split
  iterate 4 exact .refl u
  refine ((u.worksAt_modSlot ..).trans (State.worksAt_beginOnPhase _ i)).reports ?_
  rw [State.beginOnPhase, State.slot_clearTrips, State.slot_modSlot_self, State.slot_modSlot_self]
  exact Slot.reports_active (.starts rfl) rfl rfl (Slot.clearOpenFlag_flag_conv _)

theorem reports_cmdStop (p : Party) (target arg : Nibble) : s.Reports ok (cmdStop p target arg s).1 := by
  refine State.reports_onHeldSlot h (fun i u hu => ?_) p target
  split
  · exact (State.reports_abandonOnPhase hu i .abort).trans (State.reports_enterDrain ..)
  · exact u.reports_continueDrain i .idle
  · exact u.reports_enter ..
  · exact u.reports_enter ..
  · exact (u.reports_enterDrain i .idle).trans (State.reports_clearRails ..)
  all_goals exact .refl u

theorem reports_cmdAck (p : Party) (target arg : Nibble) : s.Reports ok (cmdAck p target arg s).1 := by
  refine State.reports_onHeldSlot h (fun i u _ => ?_) p target
  split
  · split
    · exact .refl u
    · exact u.reports_enter ..
  all_goals exact .refl u

theorem reports_cmdDrive (p : Party) (target arg : Nibble) (op : Word) : s.Reports ok (cmdDrive p target arg op s).1 := by
  unfold cmdDrive
  repeat' split
  iterate 3 exact .refl s
  exact State.reports_onHeldSlot h (fun i u _ => reports_driveSlot _ i u) p target

theorem reports_cmdSetConv (p : Party) (target arg : Nibble) (op : Word) :
    s.Reports ok (cmdSetConv p target arg op s).1 := by
  refine State.reports_onHeldSlot h (fun i u _ => State.Reports.reply (State.reports_modSlot ?_) _) p target
  exact Slot.reports_still rfl rfl rfl rfl

theorem reports_cmdSlotInit (p : Party) (target arg : Nibble) : s.Reports ok (cmdSlotInit p target arg s).1 := by
  have hinit (i : Fin 8) (u : State) : u.Reports ok ((u.releaseBinding i).modSlot i Slot.initialise) :=
    (u.reports_releaseBinding i).trans (State.reports_modSlot (Slot.reports_initialise _))
  refine State.reports_onHeldSlot h (fun i u _ => ?_) p target
  split
  · exact hinit i u
  · exact hinit i u
  · exact .refl u

/-! ## Holds, stacks, faults and pairs -/

theorem reports_cmdTake (p : Party) (target arg : Nibble) : s.Reports ok (cmdTake p target arg s).1 := by
  unfold cmdTake
  repeat' split
  iterate 4 exact .refl s
  · exact s.reports_restartHold p _
  · exact State.reports_takeSlot h _
  · exact .refl s

theorem reports_cmdRelease (p : Party) (target arg : Nibble) : s.Reports ok (cmdRelease p target arg s).1 := by
  unfold cmdRelease
  repeat' split
  iterate 4 exact .refl s
  exact State.reports_endBenchHold h _

theorem State.reports_onStack {remove : Slot → Slot × Status} (hremove : ∀ sl : Slot, sl.Reports ok (remove sl).1)
    (p : Party) (target : Nibble) : s.Reports ok (s.onStack p target remove).1 := by
  refine State.reports_onHeldSlot h (fun i u _ => ?_) p target
  split
  · exact .refl u
  · exact State.Reports.reply (State.reports_modSlot (hremove _)) _

theorem reports_cmdEvFree (p : Party) (target arg : Nibble) : s.Reports ok (cmdEvFree p target arg s).1 := by
  unfold cmdEvFree
  split
  · exact .refl s
  · refine State.reports_onStack h (fun sl => ?_) p target
    exact Slot.reports_still rfl rfl rfl rfl

theorem reports_cmdEvRetire (p : Party) (target arg : Nibble) : s.Reports ok (cmdEvRetire p target arg s).1 := by
  refine State.reports_onStack h (fun sl => ?_) p target
  exact Slot.reports_still rfl rfl rfl rfl

theorem reports_cmdEvClear (p : Party) (target arg : Nibble) : s.Reports ok (cmdEvClear p target arg s).1 := by
  refine State.reports_onStack h (fun sl => ?_) p target
  exact Slot.reports_still rfl rfl rfl rfl

end

section
variable (s : State)

theorem reports_cmdSummaryRead (p : Party) (target arg : Nibble) : s.Reports ok (cmdSummaryRead p target arg s).1 := by
  unfold cmdSummaryRead
  split
  · exact .refl s
  · exact s.reports_onAnySlot ..

theorem reports_cmdEvPeek (p : Party) (target arg : Nibble) : s.Reports ok (cmdEvPeek p target arg s).1 := by
  unfold cmdEvPeek
  split
  · exact .refl s
  · exact s.reports_onAnySlot ..

theorem reports_cmdFaultRead (p : Party) (target arg : Nibble) (op : Word) :
    s.Reports ok (cmdFaultRead p target arg op s).1 := by
  unfold cmdFaultRead
  split
  · exact State.reports_of_slots rfl
  split
  · exact .refl s
  · dsimp only
    exact (s.reports_restartHold p _).trans (State.reports_modSlot (Slot.reports_readFaults ..))

theorem State.reports_setPair (pr : Fin 4) (mode : PairMode) : s.Reports ok (s.setPair pr mode) := by
  refine ⟨fun j => ?_⟩
  by_cases hj : j = upperOf pr
  · subst hj
    rw [State.slot_setPair_upper]
    split <;> exact Slot.reports_still rfl rfl rfl rfl
  · rw [State.slot_setPair_ne _ _ _ hj]
    exact .refl _

theorem reports_cmdPair (p : Party) (target arg : Nibble) : s.Reports ok (cmdPair p target arg s).1 := by
  unfold cmdPair
  split
  · dsimp only
    split
    · exact .refl s
    split
    · exact (s.reports_restartHold ..).trans (State.reports_setPair ..)
    · exact s.reports_restartHold ..
  · exact .refl s

/-! ## The commands that leave every slot -/

theorem slots_cmdHoldTime (p : Party) (target arg : Nibble) (op : Word) :
    (cmdHoldTime p target arg op s).1.slots = s.slots := by
  unfold cmdHoldTime
  repeat' split
  all_goals rfl

theorem slots_cmdAlertMask (p : Party) (target arg : Nibble) (op : Word) :
    (cmdAlertMask p target arg op s).1.slots = s.slots := by
  unfold cmdAlertMask
  split
  · rfl
  · cases p <;> rfl

theorem slots_cmdProfileWrite (p : Party) (target arg : Nibble) (ops : List Word) :
    (cmdProfileWrite p target arg ops s).1.slots = s.slots := by
  unfold cmdProfileWrite
  dsimp only
  repeat' split
  all_goals rfl

theorem slots_cmdPartStatus (p : Party) (target arg : Nibble) : (cmdPartStatus p target arg s).1.slots = s.slots := by
  unfold cmdPartStatus
  split <;> rfl

theorem slots_cmdTrimRead (p : Party) (target arg : Nibble) : (cmdTrimRead p target arg s).1.slots = s.slots := by
  unfold cmdTrimRead
  split <;> rfl

theorem reports_cmdSetSampling (p : Party) (target arg : Nibble) (op : Word) :
    s.Reports ok (cmdSetSampling p target arg op s).1 := by
  unfold cmdSetSampling
  split
  · exact .refl s
  · exact State.reports_partWide (fun _ => rfl) s p

theorem reports_cmdTrimSet (p : Party) (target arg : Nibble) (op : Word) :
    s.Reports ok (cmdTrimSet p target arg op s).1 := by
  unfold cmdTrimSet
  split
  · exact .refl s
  · exact State.reports_partWide (fun _ => rfl) s p

theorem reports_cmdTrimProgram (p : Party) (target arg : Nibble) : s.Reports ok (cmdTrimProgram p target arg s).1 := by
  unfold cmdTrimProgram
  split
  · exact .refl s
  · exact State.reports_partWide (fun u => by split <;> rfl) s p

theorem State.reports_resetAll (cause : ResetCause) : s.Reports ok (s.resetAll cause) := by
  refine ⟨fun i => ?_⟩
  rw [State.slot_resetAll]
  exact Slot.reports_atReset _

theorem reports_cmdDeviceReset (p : Party) (target arg : Nibble) : s.Reports ok (cmdDeviceReset p target arg s).1 := by
  unfold cmdDeviceReset
  repeat' split
  iterate 3 exact .refl s
  exact s.reports_resetAll .command

theorem State.reports_tick : s.Reports ok s.tick := by
  refine ⟨fun i => ?_⟩
  rw [State.slot_tick]
  split
  · exact .refl _
  · exact Slot.reports_still rfl rfl rfl rfl

theorem State.reports_completeProgramming : s.Reports ok s.completeProgramming := by
  unfold State.completeProgramming
  split <;> exact State.reports_of_slots rfl

end

/-! ## Every command, every event, every step -/

theorem reports_act {s : State} (h : s.CurrentsMeet ok) (c : Cmd) (p : Party) (target arg : Nibble) (ops : List Word) :
    s.Reports ok (Cmd.act c p target arg ops s).1 := by
  cases c with
  | bind => exact reports_cmdBind h p target arg
  | unbind => exact reports_cmdUnbind h p target arg
  | start => exact reports_cmdStart h p target arg
  | stop => exact reports_cmdStop h p target arg
  | ack => exact reports_cmdAck h p target arg
  | drive => exact reports_cmdDrive h p target arg _
  | setConv => exact reports_cmdSetConv h p target arg _
  | slotInit => exact reports_cmdSlotInit h p target arg
  | status => exact s.reports_onAnySlot ..
  | summaryRead => exact reports_cmdSummaryRead s p target arg
  | take => exact reports_cmdTake h p target arg
  | release => exact reports_cmdRelease h p target arg
  | holdTime => exact State.reports_of_slots (slots_cmdHoldTime s p target arg _)
  | evPeek => exact reports_cmdEvPeek s p target arg
  | evRetire => exact reports_cmdEvRetire h p target arg
  | evFree => exact reports_cmdEvFree h p target arg
  | evClear => exact reports_cmdEvClear h p target arg
  | faultRead => exact reports_cmdFaultRead s p target arg _
  | alertMask => exact State.reports_of_slots (slots_cmdAlertMask s p target arg _)
  | profileWrite => exact State.reports_of_slots (slots_cmdProfileWrite s p target arg ops)
  | profileRead => exact .refl s
  | pair => exact reports_cmdPair s p target arg
  | partStatus => exact State.reports_of_slots (slots_cmdPartStatus s p target arg)
  | setSampling => exact reports_cmdSetSampling s p target arg _
  | trimSet => exact reports_cmdTrimSet s p target arg _
  | trimRead => exact State.reports_of_slots (slots_cmdTrimRead s p target arg)
  | trimProgram => exact reports_cmdTrimProgram s p target arg
  | deviceReset => exact reports_cmdDeviceReset s p target arg

/-- Every input current satisfies `ok`, as it stands and once a channel or a pair has taken its codes (R26, R27, R59). -/
structure State.Sampled (ok : Nat → Prop) (s : State) : Prop where
  now : s.CurrentsMeet ok
  arrival (ch : Fin 8) (code : SenseCode) : (s.modChannel ch fun c => c.arrive code).CurrentsMeet ok
  pairArrival (pr : Fin 4) (x y : SenseCode) :
    ((s.modChannel (lowerOf pr) fun c => c.arrive x).modChannel (upperOf pr) fun c => c.arrive y).CurrentsMeet ok

section
variable {s t : State} (h : s.Sampled ok)
include h

theorem State.reports_sampleArrival (ch : Fin 8) (code : SenseCode) : s.Reports ok (s.sampleArrival ch code) := by
  unfold State.sampleArrival
  split
  · exact .refl s
  · exact (State.reports_sampleAtSlot (h.arrival ch code) ch).after rfl

theorem State.reports_pairSample (pr : Fin 4) (x y : SenseCode) : s.Reports ok (s.pairSample pr x y) := by
  unfold State.pairSample
  split
  · exact (State.reports_sampleAtSlot (h.pairArrival pr x y) _).after rfl
  · exact .refl s

omit h in
theorem State.live_reports {u : State} {f : State → State} (hs : s.Reports ok u) (hu : u.Sampled ok)
    (hf : ∀ v : State, v.Sampled ok → v.Reports ok (f v)) (ht : u.live f = .next t) : s.Reports ok t := by
  unfold State.live at ht
  injection ht with ht
  rw [← ht]
  split
  · exact hs
  · exact hs.trans (hf u hu)

theorem reports_event {e : Instr} (he : isEvent e = true) (ht : exec e s = .next t) : s.Reports ok t := by
  have hself := State.Reports.refl (ok := ok) s
  have pins (p : Pins) : s.Reports ok { s with pins := p } := State.reports_of_slots rfl
  have sampled (p : Pins) : State.Sampled ok { s with pins := p } := ⟨h.now, h.arrival, h.pairArrival⟩
  have heat (b : Bool) (u : State) (hu : u.CurrentsMeet ok) :
      u.Reports ok { u with heat := b } ∧ State.CurrentsMeet ok { u with heat := b } :=
    ⟨State.reports_of_slots rfl, hu⟩
  have supply (b : Bool) (u : State) (hu : u.CurrentsMeet ok) :
      u.Reports ok { u with supplyLow := b } ∧ State.CurrentsMeet ok { u with supplyLow := b } :=
    ⟨State.reports_of_slots rfl, hu⟩
  cases e with
  | sampleArrival ch code => exact State.live_reports hself h (fun _ hv => State.reports_sampleArrival hv ch code) ht
  | pairSampleEvent pr x y => exact State.live_reports hself h (fun _ hv => State.reports_pairSample hv pr x y) ht
  | onTimeExpiry i => exact State.live_reports hself h (fun _ hv => State.reports_onTimeExpiry hv.now i) ht
  | bleedExpiry i => exact State.live_reports hself h (fun v _ => v.reports_bleedExpiry i) ht
  | restExpiry i => exact State.live_reports hself h (fun v _ => v.reports_restExpiry i) ht
  | endOfLead i => exact State.live_reports hself h (fun v _ => v.reports_endOfLead i) ht
  | drainCompletion i => exact State.live_reports hself h (fun v _ => v.reports_drainCompletion i) ht
  | holdTimerExpiry i => exact State.live_reports hself h (fun _ hv => State.reports_holdExpiry hv.now i) ht
  | trimProgrammingCompletion => exact State.live_reports hself h (fun v _ => v.reports_completeProgramming) ht
  | heatAsserted =>
    exact State.live_reports (pins _) (sampled _) (fun _ hv => State.reports_assertInput hv.now (heat true) _ _) ht
  | heatReleased =>
    exact State.live_reports (pins _) (sampled _) (fun _ hv => State.reports_releaseInput hv.now (heat false)) ht
  | supplyLowAsserted =>
    exact State.live_reports (pins _) (sampled _) (fun _ hv => State.reports_assertInput hv.now (supply true) _ _) ht
  | supplyLowReleased =>
    exact State.live_reports (pins _) (sampled _) (fun _ hv => State.reports_releaseInput hv.now (supply false)) ht
  | resetLineAsserted =>
    injection ht with ht
    rw [← ht]
    split <;> exact State.reports_of_slots rfl
  | resetLineReleased =>
    injection ht with ht
    rw [← ht]
    split
    · dsimp only
      split
      · exact (pins _).trans (State.reports_resetAll ..)
      · exact pins _
    · exact .refl s
  | logicSupplyLoss =>
    injection ht with ht
    rw [← ht]
    split <;> exact State.reports_of_slots rfl
  | powerOn =>
    injection ht with ht
    rw [← ht]
    split
    · exact .refl s
    · exact (pins _).trans (State.reports_resetAll ..)
  | _ => exact Bool.noConfusion he

theorem exec_reports {c : Instr} (ht : exec c s = .next t) : s.Reports ok t := by
  cases hc : isEvent c with
  | true => exact reports_event h hc ht
  | false =>
    obtain ⟨t', ht', htakes⟩ := exec_takes c s hc
    rw [ht] at ht'
    injection ht' with e
    rw [e]
    cases htakes with
    | wires hw => exact hw.reports
    | command c p target arg ops hu _ _ hw =>
      exact ((State.OnlyWires.reports hu).trans (reports_act (State.OnlyWires.currentsMeet hu h.now) c p target arg ops)).trans
        (State.OnlyWires.reports hw)

/-- What every step does to what the slots report from. -/
theorem step_reports (ht : step s = .next t) : s.Reports ok t := by
  unfold step at ht
  split at ht
  next rest _ =>
    exact (exec_reports (s := { s with pending := rest }) ⟨h.now, h.arrival, h.pairArrival⟩ ht).after rfl
  · unfold idleStep at ht
    split at ht
    · exact (exec_reports (s := s.useFree) ⟨h.now, h.arrival, h.pairArrival⟩ ht).after rfl
    · injection ht with ht
      rw [← ht]
      exact s.reports_tick

end

end

end Sys2Proof.Machine
end

section
/-!
PROOFS. A slot withholds a summary exactly while CONV is set (O6), and what is reported stays in its ranges (O12): each is kept by
the ways of `Slot.Reports`.
-/

namespace Sys2Proof.Machine

/-! ## The withheld summary -/

/-- Forming a summary leaves the withheld one and CONV, or withholds the new one with CONV, or raises CONV where one is withheld
(R95, R97). -/
theorem Slot.formSummary_withholds (sl : Slot) (env : Env) (v : Verdict) (last : Bool) :
    let out := sl.formSummary env v last
    (out.withheld = sl.withheld ∧ out.flag .conv = sl.flag .conv)
      ∨ (out.withheld = some (summaryOf env sl.holder sl.active v last) ∧ out.flag .conv = true)
      ∨ (out.withheld = sl.withheld ∧ sl.withheld.isSome = true ∧ out.flag .conv = true) := by
  dsimp only
  rw [Slot.formSummary_eq]
  dsimp only
  generalize summaryOf env sl.holder sl.active v last = m
  obtain ⟨before, hbefore⟩ : ∃ x : Slot, ({ sl with active := sl.active.shiftSummary m } : Slot).raiseDrift m = x :=
    ⟨_, rfl⟩
  have hkept : before.withheld = sl.withheld ∧ before.flag .conv = sl.flag .conv := by
    rw [← hbefore, Slot.raiseDrift_eq]
    split
    · exact ⟨rfl, Slot.raise_flag_conv _ (by decide)⟩
    · exact ⟨rfl, rfl⟩
  obtain ⟨hw, hf⟩ := hkept
  rw [hbefore]
  rcases before.fileSummary_cases m with ⟨-, e⟩ | ⟨-, -, e⟩ | ⟨-, -, -, e⟩ | ⟨-, -, hsome, e⟩ <;> rw [e]
  · exact .inl ⟨hw, hf⟩
  · exact .inl ⟨by rw [Slot.push_withheld, hw], by rw [Slot.push_flag_conv, hf]⟩
  · exact .inr (.inl ⟨rfl, Slot.raise_conv_flag _⟩)
  · exact .inr (.inr ⟨by rw [Slot.raise_withheld, Slot.push_withheld, hw], hw ▸ hsome, Slot.raise_conv_flag _⟩)

theorem Slot.PendingIsConv.formSummary {sl : Slot} (h : sl.PendingIsConv) (env : Env) (v : Verdict) (last : Bool) :
    (sl.formSummary env v last).PendingIsConv := by
  rcases sl.formSummary_withholds env v last with ⟨hw, hf⟩ | ⟨hw, hf⟩ | ⟨hw, hsome, hf⟩ <;>
    unfold Slot.PendingIsConv <;> rw [hw, hf]
  · exact h
  · rfl
  · exact hsome

theorem Slot.Reports.pendingIsConv {ok : Nat → Prop} {sl sl' : Slot} (h : sl.Reports ok sl') (hsl : sl.PendingIsConv) :
    sl'.PendingIsConv := by
  induction h with
  | moves _ hw hf =>
    unfold Slot.PendingIsConv
    rw [hw, hf]
    exact hsl
  | forms => exact hsl.formSummary ..
  | drops _ hw hf =>
    unfold Slot.PendingIsConv
    rw [hw, hf]
    rfl
  | trans _ _ ih ih' => exact ih' (ih hsl)

/-- Settles O6: no way of `Slot.Reports` parts the withheld summary from CONV, whatever the input currents. -/
theorem withheldExactlyWhileConvIsSet : Obligations.WithheldExactlyWhileConvIsSet := by
  intro s t hs hstep i
  have hsampled : s.Sampled fun _ => True := ⟨fun _ => trivial, fun _ _ _ => trivial, fun _ _ _ _ => trivial⟩
  exact ((step_reports hsampled hstep).slot i).pendingIsConv (hs i)

/-! ## The ranges of a summary -/

/-- The ranges of a ledger (R81, R83, R92). -/
def Ledger.InRange (g : Ledger) : Prop :=
  g.sum ≤ 32728 * g.n ∧ g.peak ≤ 32728 ∧ (∀ b, g.baseline = some b → b ≤ 523648)
    ∧ (∀ m, g.latest = some m → m.InRange) ∧ ∀ m, g.previous = some m → m.InRange

theorem Context.reportsInRange_iff (c : Context) : c.ReportsInRange ↔ c.ledger.InRange := Iff.rfl

/-- A mean of currents, rounded, is within their bound (R88). -/
theorem mean_le {sum n : Nat} (m : Rounding) (hn : n ≠ 0) (hsum : sum ≤ 32728 * n) :
    (roundRatio m sum n).toNat ≤ 32728 := by
  obtain ⟨-, hle⟩ := roundRatio_bounds (num := sum) (lo := 0) (hi := 32728) m hn (by omega) (by omega)
  omega

/-- A baseline is sixteen times a mean of currents (R92). -/
theorem baselineOf_le {sum n : Nat} (hn : n ≠ 0) (hsum : sum ≤ 32728 * n) : baselineOf sum n ≤ 523648 := by
  obtain ⟨-, hle⟩ := roundRatio_bounds (num := 16 * (sum : Int)) (lo := 0) (hi := 523648) .nearestEven hn
    (by omega) (by omega)
  unfold baselineOf
  omega

/-- A drift is the difference of two means within the same bound (R90). -/
theorem driftOf_le {sum n : Nat} (m : Rounding) {baseline : Option Nat} (hsum : sum ≤ 32728 * n)
    (hb : ∀ b, baseline = some b → b ≤ 523648) {d : Int} (hd : driftOf m sum n baseline = some d) :
    d.natAbs ≤ 32728 := by
  unfold driftOf at hd
  split at hd
  · cases hd
  next b =>
    split at hd
    · cases hd
    next hn =>
      cases hd
      have hbase : b * n ≤ 523648 * n := Nat.mul_le_mul_right n (hb b rfl)
      have hbase' : (b : Int) * n ≤ 523648 * n := by exact_mod_cast hbase
      have hpos : (0 : Int) ≤ (b : Int) * n := by positivity
      obtain ⟨hlow, hhigh⟩ := roundRatio_bounds (num := driftNumerator sum n b) (lo := -32728) (hi := 32728)
        (den := 16 * n) m (by omega) (by unfold driftNumerator; push_cast; omega)
        (by unfold driftNumerator; push_cast; omega)
      omega

theorem summaryOf_inRange {env : Env} {c : Context} (hc : c.ReportsInRange) (hcurrent : env.current ≤ 32728)
    (holder : Party) (v : Verdict) (last : Bool) : (summaryOf env holder c v last).InRange := by
  obtain ⟨hsum, hpeak, hbaseline, -, -⟩ := hc
  refine ⟨?_, ?_, fun d hd => driftOf_le _ hsum hbaseline hd, hpeak, hcurrent⟩
  · show (if decide (c.n = 0) = true then 65535 else _) ≤ 32728 ∨ (if decide (c.n = 0) = true then 65535 else _) = 65535
    split
    · exact .inr rfl
    next hn => exact .inl (mean_le _ (by simpa using hn) hsum)
  · unfold summaryOf
    dsimp only
    split
    · exact .inr rfl
    next hle => exact .inl (by simpa using hle)

/-! ## The ranges of a slot -/

/-- A shifted context reports the new summary, and a first PASS's baseline (R86, R92). -/
theorem Context.ReportsInRange.shiftSummary {c : Context} (h : c.ReportsInRange) {m : Summary} (hm : m.InRange) :
    (c.shiftSummary m).ReportsInRange := by
  obtain ⟨hsum, hpeak, hbaseline, hlatest, -⟩ := h
  refine ⟨hsum, hpeak, fun b hb => ?_, fun x hx => ?_, hlatest⟩
  · unfold Context.shiftSummary at hb
    dsimp only at hb
    split at hb
    next hfirst =>
      cases hb
      exact baselineOf_le (Nat.pos_iff_ne_zero.mp hfirst.2.1) hsum
    next => exact hbaseline b hb
  · cases hx
    exact hm

theorem Ledger.InRange.goes {g g' : Ledger} (h : g.InRange) (hgoes : g.Goes (· ≤ 32728) g') : g'.InRange := by
  obtain ⟨hsum, hpeak, hbaseline, hlatest, hprevious⟩ := h
  cases hgoes with
  | stands e => exact e ▸ ⟨hsum, hpeak, hbaseline, hlatest, hprevious⟩
  | clears e => exact e ▸ ⟨Nat.zero_le _, Nat.zero_le _, hbaseline, hlatest, hprevious⟩
  | starts e => exact e ▸ ⟨Nat.zero_le _, Nat.zero_le _, fun _ hb => (by cases hb), hlatest, hprevious⟩
  | counts current hok e =>
    refine e ▸ ⟨?_, max_le hpeak hok, hbaseline, hlatest, hprevious⟩
    show g.sum + current ≤ 32728 * (g.n + 1)
    omega
  | renews e =>
    exact e ▸ ⟨Nat.zero_le _, Nat.zero_le _, fun _ hb => (by cases hb), fun _ hm => (by cases hm), fun _ hm => (by cases hm)⟩

/-- The ranges of every context of a slot and of its withheld summary. -/
def Slot.ReportsInRange (sl : Slot) : Prop :=
  (∀ c, sl.Has c → c.ReportsInRange) ∧ ∀ m, sl.withheld = some m → m.InRange

theorem State.reportsInRange_iff (s : State) : s.ReportsInRange ↔ ∀ i, (s.slot i).ReportsInRange := by
  refine forall_congr' fun i => ⟨fun ⟨hactive, hparked, hw⟩ => ⟨fun c hc => ?_, hw⟩,
    fun ⟨hctx, hw⟩ => ⟨hctx _ (.inl rfl), fun c hc => hctx c (.inr hc), hw⟩⟩
  rcases hc with rfl | hc
  · exact hactive
  · exact hparked c hc

theorem Slot.ReportsInRange.formSummary {sl : Slot} (h : sl.ReportsInRange) {env : Env}
    (hcurrent : env.current ≤ 32728) (v : Verdict) (last : Bool) : (sl.formSummary env v last).ReportsInRange := by
  obtain ⟨hctx, hw⟩ := h
  have hactive := hctx _ (.inl rfl)
  have hm := summaryOf_inRange hactive hcurrent sl.holder v last
  refine ⟨fun c hc => ?_, fun x hx => ?_⟩
  · rcases hc with rfl | hc
    · rw [Slot.formSummary_active]
      exact hactive.shiftSummary hm
    · exact hctx c (.inr (by rw [← hc, Slot.formSummary_parked]))
  · rcases sl.formSummary_withholds env v last with ⟨e, -⟩ | ⟨e, -⟩ | ⟨e, -⟩ <;> rw [e] at hx
    · exact hw x hx
    · cases hx
      exact hm
    · exact hw x hx

theorem Slot.Reports.reportsInRange {sl sl' : Slot} (h : sl.Reports (· ≤ 32728) sl')
    (hsl : sl.ReportsInRange) : sl'.ReportsInRange := by
  have hmoved {sl sl' : Slot} (hsl : sl.ReportsInRange)
      (hctx : ∀ c', sl'.Has c' → ∃ c, sl.Has c ∧ c.ledger.Goes (· ≤ 32728) c'.ledger) :
      ∀ c', sl'.Has c' → c'.ReportsInRange := fun c' hc' => by
    obtain ⟨c, hc, hgoes⟩ := hctx c' hc'
    exact (Context.reportsInRange_iff c').mpr (((Context.reportsInRange_iff c).mp (hsl.1 c hc)).goes hgoes)
  induction h with
  | moves hctx hw => exact ⟨hmoved hsl hctx, fun m hm => hsl.2 m (hw ▸ hm)⟩
  | forms hok => exact hsl.formSummary hok ..
  | drops hctx hw => exact ⟨hmoved hsl hctx, fun m hm => by rw [hw] at hm; cases hm⟩
  | trans _ _ ih ih' => exact ih' (ih hsl)

/-! ## Input currents in range -/

/-- An input current is one present current or the sum of two (R59). -/
theorem State.inputCurrent_le {s : State} (h : ∀ c, (s.channel c).InRange) (i : Fin 8) : s.inputCurrent i ≤ 32728 := by
  have hpresent (c : Fin 8) : (s.channel c).present ≤ 16364 := (h c).1
  unfold State.inputCurrent
  have hself := hpresent i
  have hlower := hpresent (lowerOf (pairOf i))
  have hupper := hpresent (upperOf (pairOf i))
  split <;> omega

theorem State.channels_inRange_arrive {s : State} (h : ∀ c, (s.channel c).InRange) (ch : Fin 8) (code : SenseCode) (c : Fin 8) :
    ((s.modChannel ch fun x => x.arrive code).channel c).InRange := by
  rw [State.channel_modChannel]
  split
  · exact (h ch).arrive code
  · exact h c

theorem State.sampled_of_inRange {s : State} (h : s.SenseInRange) : s.Sampled (· ≤ 32728) := by
  obtain ⟨hchannels, -⟩ := h
  refine ⟨State.inputCurrent_le hchannels, fun ch code => ?_, fun pr x y => ?_⟩
  · exact State.inputCurrent_le (State.channels_inRange_arrive hchannels ch code)
  · exact State.inputCurrent_le (State.channels_inRange_arrive (State.channels_inRange_arrive hchannels _ x) _ y)

/-- Settles O12: every input current a step counts or reports is in range, so no way of `Slot.Reports` leaves the ranges. -/
theorem reportedValuesStayInRange : Obligations.ReportedValuesStayInRange := by
  intro s t hsense hs hstep
  rw [State.reportsInRange_iff] at hs ⊢
  exact fun i => ((step_reports (State.sampled_of_inRange hsense) hstep).slot i).reportsInRange (hs i)

end Sys2Proof.Machine
end

section
/-!
SUPPORT. The evidence stack: where a push, a retired entry, a hole and a cleared stack leave each entry and its depth.
-/

namespace Sys2Proof.Machine

/-! ## Places and depths -/

/-- A push reaches the place at depth 7 (R104, R105). -/
theorem Slot.pushPosition_eq (sl : Slot) : sl.pushPosition = sl.position 7 := by
  show sl.top - 1 = sl.top + 7
  generalize sl.top = top
  revert top
  decide

/-- The entry at a depth is the one in its place. -/
theorem Slot.entryAt_of_position {sl : Slot} {depth n : Fin 8} (h : sl.position depth = n) :
    sl.entryAt depth = sl.stack[n] := by
  subst h
  rfl

theorem Slot.entryAt_seven (sl : Slot) : sl.entryAt 7 = sl.stack[sl.pushPosition] :=
  Slot.entryAt_of_position sl.pushPosition_eq.symm

/-- No two depths share a place. -/
theorem Slot.position_inj (sl : Slot) {j k : Fin 8} : sl.position j = sl.position k ↔ j = k := add_right_inj sl.top

theorem stack_getElem_set (stack : Vector Entry 8) (m n : Fin 8) (e : Entry) :
    (stack.set m e)[n] = if n = m then e else stack[n] := by
  simp [Vector.getElem_set, Fin.ext_iff, eq_comm]

theorem Tag.eq_empty_iff (t : Tag) : t = .empty ↔ ¬ t = .valid := by cases t <;> simp

/-! ## A push -/

/-- Where the push of a record loses it (R107). -/
theorem Slot.push_of_lost {sl : Slot} (h : (sl.entryAt 7).tag = .valid ∧ sl.active.conv.policy = .keepOldest)
    (r : Record) : sl.push r = sl.raise .stack := by
  rw [Slot.entryAt_seven] at h
  obtain ⟨hvalid, hpolicy⟩ := h
  rcases sl.push_cases r with ⟨hempty, -⟩ | ⟨-, hnewest, -⟩ | ⟨-, -, e⟩
  · rw [hempty] at hvalid
    cases hvalid
  · rw [hnewest] at hpolicy
    cases hpolicy
  · exact e

/-- A push that keeps its record writes it, with the after-loss mark where it overflowed (R105, R106). -/
theorem Slot.push_of_kept {sl : Slot} (h : ¬ ((sl.entryAt 7).tag = .valid ∧ sl.active.conv.policy = .keepOldest))
    (r : Record) :
    sl.push r = { sl.writePushed r (decide ((sl.entryAt 7).tag = .valid)) with faults := (sl.push r).faults } := by
  rw [Slot.entryAt_seven] at h ⊢
  rcases sl.push_cases r with ⟨hempty, e⟩ | ⟨hvalid, -, e⟩ | ⟨hvalid, holdest, -⟩
  · rw [e, hempty]
    rfl
  · rw [e, hvalid]
    rfl
  · exact absurd ⟨hvalid, holdest⟩ h

/-- A push raises STACK exactly where it overflows (R108). -/
theorem Slot.push_faults (sl : Slot) (r : Record) :
    (sl.push r).faults = if (sl.entryAt 7).tag = .valid then (sl.raise .stack).faults else sl.faults := by
  rw [Slot.entryAt_seven]
  rcases sl.push_cases r with ⟨hempty, e⟩ | ⟨hvalid, -, e⟩ | ⟨hvalid, -, e⟩
  · rw [e, hempty]
    rfl
  · rw [e, hvalid]
    rfl
  · rw [e, hvalid]
    rfl

theorem Slot.entryAt_writePushed_zero (sl : Slot) (r : Record) (afterLoss : Bool) :
    (sl.writePushed r afterLoss).entryAt 0 = { tag := .valid, record := { r with afterLoss := afterLoss } } := by
  have htop : (sl.writePushed r afterLoss).position 0 = sl.pushPosition := add_zero sl.pushPosition
  rw [Slot.entryAt_of_position htop]
  exact (stack_getElem_set ..).trans (if_pos rfl)

/-- The entries before a push stand one deeper (R104). -/
theorem Slot.entryAt_writePushed_succ (sl : Slot) (r : Record) (afterLoss : Bool) {k : Fin 8} (hk : k ≠ 7) :
    (sl.writePushed r afterLoss).entryAt (k + 1) = sl.entryAt k := by
  have hdeeper : (sl.writePushed r afterLoss).position (k + 1) = sl.position k := by
    show sl.top - 1 + (k + 1) = sl.top + k
    abel
  have hne : ¬ sl.position k = sl.pushPosition := by rwa [Slot.pushPosition_eq, Slot.position_inj]
  rw [Slot.entryAt_of_position hdeeper]
  exact (stack_getElem_set ..).trans (if_neg hne)

/-- Writing a VALID entry over the one at depth 7 leaves the count where that one was VALID too. -/
theorem Slot.validCount_writePushed (sl : Slot) (r : Record) (afterLoss : Bool) :
    (sl.writePushed r afterLoss).validCount =
      if (sl.entryAt 7).tag = .valid then sl.validCount else sl.validCount + 1 := by
  have hset : (sl.writePushed r afterLoss).validCount =
      sl.validCount - (if (sl.entryAt 7).tag = .valid then 1 else 0) + 1 := by
    rw [Slot.entryAt_seven]
    unfold Slot.validCount Slot.writePushed
    rw [Vector.toList_set, List.countP_set (by simp)]
    simp
  rw [hset]
  split
  next hvalid =>
    have hpos : 0 < sl.validCount := List.countP_pos_iff.mpr ⟨sl.entryAt 7, by simp [Slot.entryAt], by simp [hvalid]⟩
    omega
  · rfl

/-! ## Removing entries -/

/-- A hole at one depth leaves every other place (R117). -/
theorem Slot.stack_freeDepth (sl : Slot) (depth n : Fin 8) :
    (sl.freeDepth depth).stack[n] = if n = sl.top + depth then { sl.stack[n] with tag := .empty } else sl.stack[n] := by
  refine (stack_getElem_set ..).trans ?_
  by_cases h : n = sl.position depth
  · subst h
    exact (if_pos rfl).trans (if_pos rfl).symm
  · exact (if_neg h).trans (if_neg h).symm

theorem Slot.stack_retire (sl : Slot) (n : Fin 8) :
    sl.retire.stack[n] = if n = sl.top then { sl.stack[n] with tag := .empty } else sl.stack[n] := by
  have hfree := sl.stack_freeDepth 0 n
  rwa [add_zero] at hfree

/-- Once the top entry is retired, the others stand one depth nearer (R116). -/
theorem Slot.entryAt_retire (sl : Slot) {k : Fin 8} (hk : k ≠ 7) : sl.retire.entryAt k = sl.entryAt (k + 1) := by
  have hnearer : sl.retire.position k = sl.position (k + 1) := by
    show sl.top + 1 + k = sl.top + (k + 1)
    abel
  have hsucc : ∀ k : Fin 8, k ≠ 7 → k + 1 ≠ 0 := by decide
  have hne : ¬ sl.position (k + 1) = sl.top := by
    rw [← add_zero sl.top]
    exact fun e => hsucc k hk (sl.position_inj.mp e)
  rw [Slot.entryAt_of_position hnearer, Slot.stack_retire, if_neg hne]
  rfl

/-- The retired entry is where the next push lands (R116). -/
theorem Slot.entryAt_retire_seven (sl : Slot) : (sl.retire.entryAt 7).tag = .empty := by
  have hlast : sl.retire.position 7 = sl.top := by
    show sl.top + 1 + 7 = sl.top
    generalize sl.top = top
    revert top
    decide
  rw [Slot.entryAt_of_position hlast, Slot.stack_retire, if_pos rfl]

theorem Slot.stack_clearStack (sl : Slot) (n : Fin 8) :
    sl.clearStack.stack[n] = { sl.stack[n] with tag := .empty } := by
  simp [Slot.clearStack]

theorem removalStatus_validAt (sl : Slot) (depth : Fin 8) :
    removalStatus (sl.validAt depth) = if (sl.entryAt depth).tag = .valid then .ok else .empty := by
  simp [removalStatus, Slot.validAt]

/-- A removing command of a slot's holder completes where no summary is withheld: the slot's hold timer restarts, the removal
is made at the slot, its status is the reply (R114). -/
theorem State.onStack_completes {s : State} {p : Party} {i : Fin 8} (h : s.Reaches p i)
    (hwithheld : (s.slot i).withheld = none) (c : Cmd) (remove : Slot → Slot × Status) :
    let removed := remove { s.slot i with holdTimer := s.holdAfter p i }
    ∃ t, s.command p c (slotField i) (fun s => s.onStack p (slotField i) remove) = .next t
      ∧ s.Answered p c (slotField i) removed.2 [] t ∧ t.slot i = removed.1 ∧ s.OnlySlot i t := by
  intro removed
  have hslot := h.slot_restartHold
  obtain ⟨t, hexec, hans, ht⟩ :=
    State.command_replies (act := fun s => s.onStack p (slotField i) remove) (st := removed.2)
      (u := (s.restartHold p i).modSlot i fun sl => (remove sl).1) h.1 c
      (by simp [State.onStack, State.onHeldSlot_reaches _ h, hslot, hwithheld, State.reply, removed])
      (h.runsAt_restartHold.trans (State.runsAt_modSlot ..)).portsKept
  refine ⟨t, hexec, hans, ?_, (h.onlySlot_restartHold.modSlot _).ports ht⟩
  rw [State.OnlyPorts.slot ht, State.slot_modSlot_self, hslot]

end Sys2Proof.Machine
end

section
/-!
PROOFS. The evidence stack (O19, O38, O39).
-/

namespace Sys2Proof.Machine

/-- Settles O19: a push that loses its record only raises STACK; any other writes it at the place of depth 7, to which TOP
moves. -/
theorem pushLandsAtTheTopOrOverflows : Obligations.PushLandsAtTheTopOrOverflows := by
  intro sl r overflows lost
  refine ⟨fun hlost => ?_, fun hkept => ?_, sl.push_faults r⟩
  · rw [Slot.push_of_lost hlost]
    rfl
  · rw [Slot.push_of_kept hkept]
    exact ⟨sl.entryAt_writePushed_zero r _, fun k => sl.entryAt_writePushed_succ r _, rfl,
      sl.validCount_writePushed r _, rfl⟩

/-- Settles O38: the removal is `Slot.retire` at the slot with its hold timer restarted. -/
theorem evRetireRemovesTheTopEntry : Obligations.EvRetireRemovesTheTopEntry := by
  intro p i arg s h hwithheld
  obtain ⟨t, hexec, hans, hself, honly⟩ :=
    State.onStack_completes h hwithheld .evRetire fun sl => (sl.retire, removalStatus (sl.validAt 0))
  have hlast : ((t.slot i).entryAt 7).tag = .empty := by
    rw [hself]
    exact Slot.entryAt_retire_seven _
  rw [removalStatus_validAt] at hans
  refine ⟨t, hexec, hans, ?_, fun n => ?_, fun k hk => ?_, hlast, fun r => ?_, ?_, honly⟩
  · rw [hself]
    rfl
  · rw [hself]
    exact Slot.stack_retire _ n
  · rw [hself]
    exact Slot.entryAt_retire _ hk
  · rw [Slot.push_faults, if_neg ((Tag.eq_empty_iff _).mp hlast)]
  · rw [hself]
    rfl

/-- Settles O39: EV-FREE is `Slot.freeDepth` and EV-CLEAR `Slot.clearStack` at the slot with its hold timer restarted. -/
theorem evFreeAndEvClearRemoveEntries : Obligations.EvFreeAndEvClearRemoveEntries := by
  intro p i s h hwithheld
  refine ⟨fun depth => ?_, fun arg => ?_⟩
  · obtain ⟨t, hexec, hans, hself, honly⟩ :=
      State.onStack_completes h hwithheld .evFree fun sl => (sl.freeDepth depth, removalStatus (sl.validAt depth))
    have hfree : exec (.evFree p (slotField i) (argField depth)) s = .next t := by
      rw [← hexec]
      show s.command p .evFree (slotField i) (cmdEvFree p (slotField i) (argField depth)) = _
      congr 1
      funext s
      simp [cmdEvFree]
    rw [removalStatus_validAt] at hans
    refine ⟨t, hfree, hans, fun n => ?_, ?_, honly⟩
    · rw [hself]
      exact Slot.stack_freeDepth _ depth n
    · rw [hself]
      rfl
  · obtain ⟨t, hexec, hans, hself, honly⟩ :=
      State.onStack_completes h hwithheld .evClear fun sl => (sl.clearStack, .ok)
    refine ⟨t, hexec, hans, fun n => ?_, ?_, honly⟩
    · rw [hself]
      exact Slot.stack_clearStack _ n
    · rw [hself]
      rfl

end Sys2Proof.Machine
end

section
/-!
PROOFS. A trip drains its slot to FAULTED (O51): the check that trips, by the order of R120's table, then the work of R122.
-/

namespace Sys2Proof.Machine

/-! ## The check that trips -/

/-- The name a TRIP record gives a channel (R111). -/
def State.channelName (s : State) (i ch : Fin 8) : ChannelName :=
  if s.mode i = .separate then .self else if isUpper ch then .upper else .lower

/-- A sample checks its own channel, or of a pair's channels those that are fed, the lower first (R120). -/
theorem State.tripChecks_cases (s : State) (i : Fin 8) :
    (s.mode i = .separate ∧ ∃ level, s.tripChecks i = [{ channel := i, name := .self, level := level }])
    ∨ (s.mode i ≠ .separate ∧ ∃ x y, (s.tripChecks i).Sublist
        [ { channel := lowerOf (pairOf i), name := .lower, level := x },
          { channel := upperOf (pairOf i), name := .upper, level := y } ]) := by
  unfold State.tripChecks
  cases hm : s.mode i with
  | separate => exact .inl ⟨rfl, _, rfl⟩
  | gang => exact .inr ⟨by simp, _, _, List.Sublist.refl _⟩
  | dual =>
    refine .inr ⟨by simp, (s.activeRecord i).standbyTrip, (s.activeRecord i).tripLevel, ?_⟩
    dsimp only
    split <;> simp

theorem State.tripChecks_name {s : State} {i : Fin 8} {t : TripCheck} (ht : t ∈ s.tripChecks i) :
    t.name = s.channelName i t.channel := by
  unfold State.channelName
  rcases s.tripChecks_cases i with ⟨hm, level, hchecks⟩ | ⟨hm, x, y, hchecks⟩
  · rw [hchecks, List.mem_singleton] at ht
    rw [if_pos hm, ht]
  · rw [if_neg hm]
    rcases List.mem_pair.mp (hchecks.subset ht) with rfl | rfl <;> simp

theorem State.tripChecks_lowerFirst (s : State) (i : Fin 8) :
    (s.tripChecks i).Pairwise fun t t' => t.channel < t'.channel := by
  have hlt : ∀ q, lowerOf q < upperOf q := by decide
  rcases s.tripChecks_cases i with ⟨-, level, hchecks⟩ | ⟨-, x, y, hchecks⟩
  · simp [hchecks]
  · exact List.Pairwise.sublist hchecks (by simp [hlt])

/-- The check of the lowest channel that trips is the one that counts (R111, R121). -/
theorem State.tripped_eq_some {s : State} {i ch : Fin 8} {level : Nat}
    (hs : (s.slot i).active.state = .runOn ∨ (s.slot i).active.state = .manual) (htrips : s.trips i ch)
    (hleast : ∀ ch', s.trips i ch' → ch ≤ ch') (hlevel : s.appliedLevel i ch = some level) :
    (s.countTrips (s.tripChecks i)).tripped (s.tripChecks i) (s.activeRecord i).tripDebounce =
      some { channel := ch, name := s.channelName i ch, level := level } := by
  rw [State.appliedLevel_eq hs, Option.map_eq_some_iff] at hlevel
  obtain ⟨t, hfind, rfl⟩ := hlevel
  have hmem : t ∈ s.tripChecks i := List.mem_of_find?_eq_some hfind
  obtain rfl : t.channel = ch := by simpa using List.find?_some hfind
  rw [← State.tripChecks_name hmem]
  obtain ⟨before, after, hsplit⟩ := List.append_of_mem hmem
  refine List.find?_eq_some_iff_append.mpr ⟨?_, before, after, hsplit, fun x hx => ?_⟩
  · rw [State.channel_countTrips_sample hs]
    exact decide_eq_true htrips.2
  · obtain ⟨-, -, horder⟩ := List.pairwise_append.mp (hsplit ▸ s.tripChecks_lowerFirst i)
    have hlower : x.channel < t.channel := horder x hx t (by simp)
    have hxmem : x ∈ s.tripChecks i := by simp [hsplit, hx]
    have hxtrips : ¬ s.trips i x.channel := fun h => absurd (hleast _ h) (Fin.not_le.mpr hlower)
    rw [State.channel_countTrips_sample hs]
    simpa [State.tripCheck_level hs hxmem] using hxtrips

/-- A channel checked at a sample of a slot is one the slot governs. -/
theorem State.governor_of_appliedLevel {s : State} {i ch : Fin 8} (hup : s.upperPaired i = false)
    (h : s.appliedLevel i ch ≠ none) : s.governor ch = i := by
  have hself : s.governor i = i := State.governor_of_not_upperPaired hup
  have hpair : pairOf ch = pairOf i → s.isPaired i = true → s.governor ch = i := fun hpair hp => by
    have hmode : s.isPaired ch = s.isPaired i := by simp only [State.isPaired, State.mode, hpair]
    rw [← hself, State.governor, State.governor, hmode, hpair, if_pos hp, if_pos hp]
  unfold State.appliedLevel at h
  cases hm : s.mode i with
  | separate =>
    by_cases hch : ch = i
    · rw [hch, hself]
    · simp [hm, hch] at h
  | gang =>
    refine hpair ?_ (by simp [State.isPaired, hm])
    by_contra hne
    simp [hm, hne] at h
  | dual =>
    refine hpair ?_ (by simp [State.isPaired, hm])
    by_contra hne
    rw [pairOf_eq_iff, not_or] at hne
    simp [hm, hne] at h

/-- The checks of a sample leave the trip counts of other slots' channels. -/
theorem State.countAfter_of_ungoverned {s : State} {i ch : Fin 8} (hup : s.upperPaired i = false)
    (h : s.governor ch ≠ i) : s.countAfter i ch = (s.channel ch).tripCount := by
  have hunchecked : s.appliedLevel i ch = none := by
    by_contra hchecked
    exact h (State.governor_of_appliedLevel hup hchecked)
  rw [State.countAfter, hunchecked]

/-! ## What a trip leaves -/

/-- A slot with TRIP raised and the TRIP record pushed (R122). -/
def State.tripNoted (s : State) (i : Fin 8) (t : TripCheck) : Slot :=
  ((s.slot i).raise .trip).push
    ((s.slot i).recordOf (s.slot i).active.k (s.inputCurrent i) (.trip t.name (s.channel t.channel).present t.level))

/-- The same once an on-phase has formed its summary; in MANUAL there is none (R123). -/
def State.tripEnded (s : State) (i : Fin 8) (t : TripCheck) : Slot :=
  if (s.slot i).active.state = .runOn then (s.tripNoted i t).formSummary (s.env i) .trip false else s.tripNoted i t

theorem State.slot_recordTrip (s : State) (i : Fin 8) (t : TripCheck) : (s.recordTrip i t).slot i = s.tripNoted i t :=
  s.slot_modSlot_self i _

theorem State.tripNoted_active (s : State) (i : Fin 8) (t : TripCheck) :
    (s.tripNoted i t).active = (s.slot i).active := by
  simp [State.tripNoted]

theorem State.tripEnded_bound (s : State) (i : Fin 8) (t : TripCheck) :
    (s.tripEnded i t).active.bound = (s.slot i).active.bound := by
  unfold State.tripEnded
  split
  · simp [State.tripNoted_active, Context.shiftSummary]
  · rw [State.tripNoted_active]

/-- A trip drains its slot and clears the trip counts it governs, before the rail requests go (R121 to R123). -/
theorem State.trip_leaves {s : State} {i : Fin 8} (hup : s.upperPaired i = false) (t : TripCheck) :
    ∃ w, s.trip i t = w.clearRails i ∧ State.RunsAt i s w
      ∧ w.slot i = (s.tripEnded i t).inState .drain (freshTimer (drainOf (s.activeRecord i))) (some .faulted)
      ∧ ∀ x, w.channel x =
          { s.channel x with tripCount := if s.governor x = i then 0 else (s.channel x).tripCount } := by
  have hchannel := State.channel_clearTrips (s := s.recordTrip i t) hup
  have hslot : ((s.recordTrip i t).clearTrips i).slot i = s.tripNoted i t := by
    rw [State.slot_clearTrips, State.slot_recordTrip]
  have hnoted : State.RunsAt i s ((s.recordTrip i t).clearTrips i) :=
    (s.runsAt_modSlot ..).trans (State.runsAt_clearTrips ..)
  unfold State.trip
  dsimp only
  generalize (s.recordTrip i t).clearTrips i = noted at hchannel hslot hnoted
  have henv : noted.env i = s.env i := hnoted.env (by rw [hslot, State.tripNoted_active])
  obtain ⟨ended, hended, hrun, hself, hchannel'⟩ : ∃ ended,
      (if (noted.slot i).active.state = .runOn then noted.abandonOnPhase i .trip else noted) = ended
        ∧ State.RunsAt i s ended ∧ ended.slot i = s.tripEnded i t ∧ ∀ x, ended.channel x = noted.channel x := by
    refine ⟨_, rfl, ?_⟩
    rw [hslot, State.tripNoted_active, State.tripEnded]
    split
    · exact ⟨hnoted.trans (State.runsAt_abandonOnPhase ..), by rw [State.slot_abandonOnPhase, hslot, henv],
        fun _ => rfl⟩
    · exact ⟨hnoted, hslot, fun _ => rfl⟩
  rw [hended]
  refine ⟨_, rfl, hrun.trans (State.runsAt_enterDrain ..), ?_, fun x => (hchannel' x).trans (hchannel x)⟩
  rw [State.slot_enterDrain, hself, hrun.activeRecord (by rw [hself, State.tripEnded_bound])]

theorem State.RunsAt.pair_clearRails {i : Fin 8} {s t : State} (h : State.RunsAt i s t) (q : Fin 4) :
    (t.clearRails i).pair q = { s.pair q with rails := if q = pairOf i then none else (s.pair q).rails } := by
  rw [State.clearRails, State.pair_modPair]
  split
  next hq => rw [h.pair, hq]
  · rw [h.pair]

theorem State.RunsAt.clearRails_frame {i : Fin 8} {s t : State} (h : State.RunsAt i s t) :
    let r := t.clearRails i
    r = { s with slots := r.slots, channels := r.channels, pairs := r.pairs } := by
  obtain ⟨-, -, hframe⟩ := h
  rw [hframe]
  rfl

/-- Checking a sample changes nothing that a trip reads at its slot. -/
theorem State.RunsAt.tripEnded {i : Fin 8} {s t : State} (h : State.RunsAt i s t) (hslot : t.slot i = s.slot i)
    (c : TripCheck) : t.tripEnded i c = s.tripEnded i c := by
  have henv : t.env i = s.env i := h.env (by rw [hslot])
  simp only [State.tripEnded, State.tripNoted, hslot, henv, h.inputCurrent, h.present]

/-- A sample at which channels trip, the lowest of them standing for all. -/
theorem State.sampleAtSlot_trips {s : State} {i ch : Fin 8} {level : Nat}
    (hs : (s.slot i).active.state = .runOn ∨ (s.slot i).active.state = .manual) (hup : s.upperPaired i = false)
    (htrips : s.trips i ch) (hleast : ∀ ch', s.trips i ch' → ch ≤ ch') (hlevel : s.appliedLevel i ch = some level) :
    ∃ w, s.sampleAtSlot i = w.clearRails i ∧ State.RunsAt i s w
      ∧ w.slot i =
          (s.tripEnded i { channel := ch, name := s.channelName i ch, level := level }).inState .drain
            (freshTimer (drainOf (s.activeRecord i))) (some .faulted)
      ∧ ∀ x, w.channel x =
          { s.channel x with tripCount := if s.governor x = i then 0 else (s.channel x).tripCount } := by
  have hcounted := s.runsAt_countTrips i (s.tripChecks i)
  have hcounts := State.channel_countTrips_sample hs
  have hslot := s.slot_countTrips (s.tripChecks i) i
  rw [State.sampleAtSlot_of_fed hs]
  dsimp only
  rw [State.tripped_eq_some hs htrips hleast hlevel]
  generalize s.countTrips (s.tripChecks i) = v at hcounted hcounts hslot
  obtain ⟨w, htrip, hrun, hself, hchannel⟩ :=
    State.trip_leaves ((hcounted.upperPaired i).trans hup) { channel := ch, name := s.channelName i ch, level := level }
  refine ⟨w, htrip, hcounted.trans hrun, ?_, fun x => ?_⟩
  · rw [hself, hcounted.tripEnded hslot, hcounted.activeRecord (by rw [hslot])]
  · rw [hchannel, hcounts, hcounted.governor]
    by_cases hx : s.governor x = i
    · rw [if_pos hx, if_pos hx]
    · rw [if_neg hx, if_neg hx, State.countAfter_of_ungoverned hup hx]

theorem sampleReaches_tripCount {row : Instr} {i : Fin 8} {s u : State} (hr : s.SampleReaches row i u) (x : Fin 8) :
    (u.channel x).tripCount = (s.channel x).tripCount := by
  have harrive (s : State) (c : Fin 8) (code : SenseCode) :
      ((s.modChannel c fun ch => ch.arrive code).channel x).tripCount = (s.channel x).tripCount := by
    rw [State.channel_modChannel]
    split
    next hx =>
      subst hx
      rfl
    · rfl
  obtain ⟨code, -, -, rfl⟩ | ⟨pr, a, b, -, -, -, rfl⟩ := hr
  · exact harrive ..
  · exact (harrive ..).trans (harrive ..)

/-- Settles O51: the sample that trips, read from the state before it, whose channels alone it had changed (R30). -/
theorem tripDrainsTheSlotToFaulted : Obligations.TripDrainsTheSlotToFaulted := by
  intro row i ch level s u h hr hs htrips hleast hlevel sl name noted ended
  have hslot := sampleReaches_slot hr
  have hframe := sampleReaches_frame hr
  have hpair (q : Fin 4) : u.pair q = s.pair q := by
    rw [hframe]
    rfl
  have hgovernor (x : Fin 8) : u.governor x = s.governor x := by
    rw [hframe]
    rfl
  have hended : u.tripEnded i { channel := ch, name := u.channelName i ch, level := level } = ended := by
    rw [State.tripEnded, State.tripNoted, State.channelName, hslot, sampleReaches_mode hr]
  obtain ⟨w, hsample, hrun, hself, hchannel⟩ :=
    State.sampleAtSlot_trips (by rwa [hslot]) (sampleReaches_upperPaired hr) htrips hleast hlevel
  refine ⟨w.clearRails i, (sampleReaches_exec hr h).trans (congrArg _ hsample), ?_,
    fun j hj => (hrun.slot_ne hj).trans (hslot j), fun x => ?_, fun q => ?_, hrun.clearRails_frame⟩
  · rw [State.slot_clearRails, hself, hended, sampleReaches_activeRecord hr]
  · rw [← hgovernor, ← sampleReaches_tripCount hr]
    exact hchannel x
  · rw [hrun.pair_clearRails, hpair]

end Sys2Proof.Machine
end

section
/-!
PROOFS. No slot runs or is driven under a shelf hold (O10). Every operation but the shelf inputs and the resets leaves the
levels as they are, and under a hold sets nothing running: a run's own work finds no run to work at, what begins a run is
refused under a hold, and a restored run pauses (`State.StaysStopped`).
-/

namespace Sys2Proof.Machine

/-! ## Staying stopped -/

/-- The levels stand, and under a shelf hold a slot that the hold finds stopped is stopped afterwards. -/
structure State.StaysStopped (s t : State) : Prop where
  heat : t.heat = s.heat
  supplyLow : t.supplyLow = s.supplyLow
  pins : t.pins = s.pins
  slot (i : Fin 8) (hhold : s.shelfHold = true) (hi : (s.slot i).active.state.stoppedByHold = false) :
    (t.slot i).active.state.stoppedByHold = false

theorem State.StaysStopped.shelfHold {s t : State} (h : s.StaysStopped t) : t.shelfHold = s.shelfHold := by
  unfold State.shelfHold
  rw [h.heat, h.supplyLow]

theorem State.StaysStopped.refl (s : State) : s.StaysStopped s := ⟨rfl, rfl, rfl, fun _ _ hi => hi⟩

theorem State.StaysStopped.trans {s t u : State} (h : s.StaysStopped t) (h' : t.StaysStopped u) : s.StaysStopped u :=
  ⟨h'.heat.trans h.heat, h'.supplyLow.trans h.supplyLow, h'.pins.trans h.pins,
    fun i hhold hi => h'.slot i (h.shelfHold.trans hhold) (h.slot i hhold hi)⟩

theorem State.StaysStopped.reply {s t : State} (h : s.StaysStopped t) (st : Status) : s.StaysStopped (t.reply st).1 := h

/-- A change of neither slots nor levels. -/
theorem State.staysStopped_of_same {s t : State} (hslots : t.slots = s.slots) (hheat : t.heat = s.heat)
    (hsupply : t.supplyLow = s.supplyLow) (hpins : t.pins = s.pins) : s.StaysStopped t := by
  refine ⟨hheat, hsupply, hpins, fun i _ hi => ?_⟩
  rw [State.slot, hslots]
  exact hi

theorem State.OnlyWires.staysStopped {s t : State} (h : s.OnlyWires t) : s.StaysStopped t := by
  rw [h]
  exact State.staysStopped_of_same rfl rfl rfl rfl

/-- The work of one slot: what it leaves there under a hold is all that counts. -/
theorem State.WorksAt.staysStopped {i : Fin 8} {s t : State} (h : State.WorksAt i s t)
    (hi : s.shelfHold = true → (s.slot i).active.state.stoppedByHold = false →
      (t.slot i).active.state.stoppedByHold = false) : s.StaysStopped t := by
  obtain ⟨hslot, hframe⟩ := h
  refine ⟨by rw [hframe], by rw [hframe], by rw [hframe], fun j hhold hj => ?_⟩
  by_cases e : j = i
  · subst e
    exact hi hhold hj
  · rw [hslot j e]
    exact hj

/-- A run or a manual drive at work: under a hold there is none (R130). -/
theorem State.WorksAt.staysStopped_of_run {i : Fin 8} {s t : State} {st : SlotState} (h : State.WorksAt i s t)
    (hs : (s.slot i).active.state = st) (hst : st.stoppedByHold = true) : s.StaysStopped t :=
  h.staysStopped fun _ hi => absurd hi (by rw [hs, hst]; decide)

/-- Work that is done while no hold is in force. -/
theorem State.WorksAt.staysStopped_of_unheld {i : Fin 8} {s t : State} (h : State.WorksAt i s t)
    (hs : ¬ s.shelfHold = true) : s.StaysStopped t :=
  h.staysStopped fun hhold => absurd hhold hs

theorem State.staysStopped_modSlot {s : State} {i : Fin 8} {f : Slot → Slot}
    (hf : (s.slot i).active.state.stoppedByHold = false → (f (s.slot i)).active.state.stoppedByHold = false) :
    s.StaysStopped (s.modSlot i f) :=
  (s.worksAt_modSlot i f).staysStopped fun _ hi => by
    rw [State.slot_modSlot_self]
    exact hf hi

/-- A context that needs no profile is not one a hold stops. -/
theorem SlotState.not_stoppedByHold_of_unneeded {st : SlotState} (h : st.needsProfile = false) :
    st.stoppedByHold = false := by
  cases st with
  | idle | drain | faulted => rfl
  | manual | runOn | runBleed | runRest | paused => cases h

theorem State.staysStopped_modChannel (s : State) (i : Fin 8) (f : Channel → Channel) :
    s.StaysStopped (s.modChannel i f) := State.staysStopped_of_same rfl rfl rfl rfl

theorem State.staysStopped_modPair (s : State) (q : Fin 4) (f : Pair → Pair) : s.StaysStopped (s.modPair q f) :=
  State.staysStopped_of_same rfl rfl rfl rfl

theorem State.staysStopped_clearRails (s : State) (i : Fin 8) : s.StaysStopped (s.clearRails i) :=
  s.staysStopped_modPair ..

theorem State.staysStopped_releaseBinding (s : State) (i : Fin 8) : s.StaysStopped (s.releaseBinding i) :=
  (s.worksAt_releaseBinding i).staysStopped fun _ hi => by
    rw [State.slot_releaseBinding, if_pos rfl]
    exact hi

theorem State.staysStopped_restartHold (s : State) (p : Party) (i : Fin 8) : s.StaysStopped (s.restartHold p i) := by
  unfold State.restartHold
  split
  · exact State.staysStopped_modSlot id
  · exact .refl s

theorem State.staysStopped_setHolder (s : State) (i : Fin 8) (p : Party) : s.StaysStopped (s.setHolder i p) := by
  have hframe := s.setHolder_frame i p
  refine ⟨by rw [hframe], by rw [hframe], by rw [hframe], fun j _ hj => ?_⟩
  rw [(s.sameContexts_setHolder i p).active]
  exact hj

/-! ## The slot engine and samples -/

/-- An on-phase that ends uncounted stays RUN-ON until its slot leaves it. -/
theorem State.staysStopped_abandonOnPhase (s : State) (i : Fin 8) (v : Verdict) :
    s.StaysStopped (s.abandonOnPhase i v) :=
  State.staysStopped_modSlot fun hi => by
    rw [Slot.formSummary_active]
    exact hi

theorem State.staysStopped_enterDrain (s : State) (i : Fin 8) (x : DrainNext) : s.StaysStopped (s.enterDrain i x) :=
  (s.worksAt_enterDrain i x).staysStopped fun _ _ => by
    rw [State.slot_enterDrain]
    rfl

/-- Under a hold a run that goes on from a restore is complete or pauses (R156). -/
theorem State.goneOn_not_stoppedByHold (s : State) (i : Fin 8) (sl : Slot) (c : Context) :
    (s.goneOn i true sl c).active.state.stoppedByHold = false := by
  unfold State.goneOn
  dsimp only
  split
  · rfl
  · rfl

/-- What a restored context settles to under a hold is stopped, whatever it was parked as. -/
theorem State.settleRestored_not_stoppedByHold {s : State} (h : s.shelfHold = true) (i : Fin 8) :
    ((s.settleRestored i).slot i).active.state.stoppedByHold = false := by
  have hrun : ((s.resumeRun i s.shelfHold).slot i).active.state.stoppedByHold = false := by
    rw [State.slot_resumeRun, h]
    exact s.goneOn_not_stoppedByHold ..
  rw [State.settleRestored_eq]
  split
  · rw [State.slot_modSlot_self]; rfl
  iterate 4 exact hrun
  all_goals rw [State.slot_modSlot_self]; rfl

theorem State.restore_not_stoppedByHold {s : State} (h : s.shelfHold = true) (i : Fin 8) :
    ((s.restore i).slot i).active.state.stoppedByHold = false := by
  cases hp : (s.slot i).parked with
  | some c =>
    rw [State.restore_eq hp]
    refine State.settleRestored_not_stoppedByHold ?_ i
    rw [s.unparked_frame i c]
    exact h
  | none =>
    have hnone : ((s.releaseBinding i).slot i).parked = none := by rw [State.slot_releaseBinding, if_pos rfl, hp]
    unfold State.restore
    dsimp only
    rw [hnone, State.slot_modSlot_self]
    rfl

theorem State.staysStopped_restore (s : State) (i : Fin 8) : s.StaysStopped (s.restore i) :=
  (s.worksAt_restore i).staysStopped fun hhold _ => State.restore_not_stoppedByHold hhold i

theorem State.staysStopped_onTimeExpiry (s : State) (i : Fin 8) : s.StaysStopped (s.onTimeExpiry i) := by
  by_cases h : (s.slot i).active.state = .runOn
  · exact (s.worksAt_onTimeExpiry i).staysStopped_of_run h rfl
  · rw [State.onTimeExpiry, if_neg h]
    exact .refl s

theorem State.staysStopped_bleedExpiry (s : State) (i : Fin 8) : s.StaysStopped (s.bleedExpiry i) := by
  rw [State.bleedExpiry_eq]
  split
  next h => exact (s.runsAt_resumeRun i false).worksAt.staysStopped_of_run h rfl
  next => exact .refl s

theorem State.staysStopped_restExpiry (s : State) (i : Fin 8) : s.StaysStopped (s.restExpiry i) := by
  unfold State.restExpiry
  split
  next h => exact (s.worksAt_beginOnPhase i).staysStopped_of_run h rfl
  next => exact .refl s

theorem State.staysStopped_endOfLead (s : State) (i : Fin 8) : s.StaysStopped (s.endOfLead i) := by
  unfold State.endOfLead
  split
  · exact State.staysStopped_modSlot id
  · exact .refl s

theorem State.staysStopped_drainCompletion (s : State) (i : Fin 8) : s.StaysStopped (s.drainCompletion i) := by
  unfold State.drainCompletion
  split
  · split
    · exact State.staysStopped_modSlot fun _ => rfl
    · exact s.staysStopped_restore i
    · exact State.staysStopped_modSlot fun _ => rfl
    · exact State.staysStopped_modSlot fun _ => rfl
  · exact .refl s

/-- A sample goes no further than the channels where nothing is fed (R23). -/
theorem State.staysStopped_sampleAtSlot (s : State) (i : Fin 8) : s.StaysStopped (s.sampleAtSlot i) := by
  have hw := s.worksAt_sampleAtSlot i
  by_cases hrun : (s.slot i).active.state = .runOn
  · exact hw.staysStopped_of_run hrun rfl
  by_cases hmanual : (s.slot i).active.state = .manual
  · exact hw.staysStopped_of_run hmanual rfl
  rw [State.sampleAtSlot_of_unfed hrun hmanual]
  exact .refl s

theorem State.staysStopped_sampleArrival (s : State) (ch : Fin 8) (code : SenseCode) :
    s.StaysStopped (s.sampleArrival ch code) := by
  unfold State.sampleArrival
  split
  · exact .refl s
  · exact (s.staysStopped_modChannel ..).trans (State.staysStopped_sampleAtSlot ..)

theorem State.staysStopped_pairSample (s : State) (pr : Fin 4) (x y : SenseCode) :
    s.StaysStopped (s.pairSample pr x y) := by
  unfold State.pairSample
  split
  · exact ((s.staysStopped_modChannel ..).trans (State.staysStopped_modChannel ..)).trans
      (State.staysStopped_sampleAtSlot ..)
  · exact .refl s

theorem State.staysStopped_completeProgramming (s : State) : s.StaysStopped s.completeProgramming := by
  unfold State.completeProgramming
  split
  · exact .refl s
  · exact State.staysStopped_of_same rfl rfl rfl rfl

theorem State.staysStopped_tick (s : State) : s.StaysStopped s.tick := by
  have hframe : s.tick.heat = s.heat ∧ s.tick.supplyLow = s.supplyLow ∧ s.tick.pins = s.pins := by
    unfold State.tick
    split <;> exact ⟨rfl, rfl, rfl⟩
  obtain ⟨hheat, hsupply, hpins⟩ := hframe
  refine ⟨hheat, hsupply, hpins, fun i _ hi => ?_⟩
  rw [State.slot_tick]
  split
  · exact hi
  · exact hi

/-! ## Acceptance -/

theorem State.staysStopped_onHeldSlot {act : Fin 8 → State → State × Reply}
    (h : ∀ (i : Fin 8) (u : State), u.StaysStopped (act i u).1) (s : State) (p : Party) (target : Nibble) :
    s.StaysStopped (s.onHeldSlot p target act).1 := by
  rcases s.onHeldSlot_cases p target act with ⟨-, e⟩ | ⟨i, -, ⟨-, e⟩ | ⟨-, -, e⟩ | ⟨-, -, e⟩⟩ <;> rw [e]
  · exact .refl s
  · exact .refl s
  · exact .refl s
  · exact (s.staysStopped_restartHold p i).trans (h i _)

theorem State.staysStopped_onAnySlot (s : State) (p : Party) (target : Nibble) (report : Fin 8 → State → Reply) :
    s.StaysStopped (s.onAnySlot p target report).1 := by
  unfold State.onAnySlot
  split
  · exact .refl s
  · exact s.staysStopped_restartHold p _

theorem State.staysStopped_partWide {act : State → State × Reply} (h : ∀ u : State, u.StaysStopped (act u).1)
    (s : State) (p : Party) : s.StaysStopped (s.partWide p act).1 := by
  rcases s.partWide_cases p act with ⟨-, e⟩ | ⟨-, -, e⟩ | ⟨-, -, -, e⟩ <;> rw [e]
  · exact .refl s
  · exact .refl s
  · exact h s

/-! ## The slot commands -/

theorem staysStopped_cmdBind (p : Party) (target arg : Nibble) (s : State) :
    s.StaysStopped (cmdBind p target arg s).1 := by
  refine State.staysStopped_onHeldSlot (fun i u => ?_) s p target
  split
  · exact .refl u
  split
  · exact .refl u
  · refine ((u.worksAt_bindTo i _).staysStopped fun _ hi => ?_).reply _
    rw [State.slot_bindTo]
    exact hi

theorem staysStopped_cmdUnbind (p : Party) (target arg : Nibble) (s : State) :
    s.StaysStopped (cmdUnbind p target arg s).1 := by
  refine State.staysStopped_onHeldSlot (fun i u => ?_) s p target
  split
  · exact u.staysStopped_releaseBinding i
  · exact u.staysStopped_releaseBinding i
  · exact .refl u

/-- A START is refused under a hold (R6). -/
theorem staysStopped_cmdStart (p : Party) (target arg : Nibble) (s : State) :
    s.StaysStopped (cmdStart p target arg s).1 := by
  refine State.staysStopped_onHeldSlot (fun i u => ?_) s p target
  dsimp only
  split
  · exact .refl u
  split
  · exact .refl u
  split
  · exact .refl u
  split
  · exact .refl u
  next hhold =>
    exact ((u.worksAt_modSlot i _).trans (State.worksAt_beginOnPhase _ i)).staysStopped_of_unheld hhold

theorem staysStopped_cmdStop (p : Party) (target arg : Nibble) (s : State) :
    s.StaysStopped (cmdStop p target arg s).1 := by
  refine State.staysStopped_onHeldSlot (fun i u => ?_) s p target
  split
  · exact (u.staysStopped_abandonOnPhase i .abort).trans (State.staysStopped_enterDrain ..)
  · exact State.StaysStopped.reply (State.staysStopped_modSlot fun _ => rfl) _
  · exact State.StaysStopped.reply (State.staysStopped_modSlot fun _ => rfl) _
  · exact State.StaysStopped.reply (State.staysStopped_modSlot fun _ => rfl) _
  · exact (u.staysStopped_enterDrain i .idle).trans (State.staysStopped_clearRails ..)
  all_goals exact .refl u

theorem staysStopped_cmdAck (p : Party) (target arg : Nibble) (s : State) :
    s.StaysStopped (cmdAck p target arg s).1 := by
  refine State.staysStopped_onHeldSlot (fun i u => ?_) s p target
  split
  · split
    · exact .refl u
    · exact State.StaysStopped.reply (State.staysStopped_modSlot fun _ => rfl) _
  all_goals exact .refl u

/-- A DRIVE that would feed from IDLE is refused under a hold (R17); one in MANUAL sets rail requests alone, or
ends the drive (R143). -/
theorem staysStopped_driveSlot (form : DriveForm) (i : Fin 8) (s : State) : s.StaysStopped (driveSlot form i s).1 := by
  unfold driveSlot
  split
  · split
    · exact .refl s
    split
    · exact .refl s
    next hhold => exact (s.worksAt_enterManual i _).staysStopped_of_unheld hhold
  · exact s.staysStopped_enterDrain i .idle
  · exact .refl s
  · exact (s.staysStopped_modPair ..).reply _
  · exact (s.staysStopped_enterDrain i .idle).trans (State.staysStopped_clearRails ..)
  · exact State.StaysStopped.trans (State.staysStopped_modSlot fun _ => rfl) (State.staysStopped_clearRails _ i)
  · exact .refl s

theorem staysStopped_cmdDrive (p : Party) (target arg : Nibble) (op : Word) (s : State) :
    s.StaysStopped (cmdDrive p target arg op s).1 := by
  unfold cmdDrive
  repeat' split
  iterate 3 exact .refl s
  exact State.staysStopped_onHeldSlot (fun i u => staysStopped_driveSlot _ i u) s p target

theorem staysStopped_cmdSetConv (p : Party) (target arg : Nibble) (op : Word) (s : State) :
    s.StaysStopped (cmdSetConv p target arg op s).1 :=
  State.staysStopped_onHeldSlot (fun _ _ => State.StaysStopped.reply (State.staysStopped_modSlot id) _) s p target

theorem staysStopped_cmdSlotInit (p : Party) (target arg : Nibble) (s : State) :
    s.StaysStopped (cmdSlotInit p target arg s).1 := by
  have hinit (u : State) (i : Fin 8) : u.StaysStopped ((u.releaseBinding i).modSlot i Slot.initialise) :=
    (u.staysStopped_releaseBinding i).trans (State.staysStopped_modSlot fun _ => rfl)
  refine State.staysStopped_onHeldSlot (fun i u => ?_) s p target
  split
  · exact hinit u i
  · exact hinit u i
  · exact .refl u

theorem staysStopped_cmdSummaryRead (p : Party) (target arg : Nibble) (s : State) :
    s.StaysStopped (cmdSummaryRead p target arg s).1 := by
  unfold cmdSummaryRead
  split
  · exact .refl s
  · exact s.staysStopped_onAnySlot ..

/-! ## Holding slots -/

/-- The bench's fresh context is at rest or drains (R149). -/
theorem State.staysStopped_handOver (s : State) (i : Fin 8) (r : ProfileRecord) :
    s.StaysStopped (s.modSlot i fun sl => sl.handOver r) :=
  State.staysStopped_modSlot fun _ => SlotState.not_stoppedByHold_of_unneeded (freshContext_kept ..).1

theorem State.staysStopped_takeSlot (s : State) (i : Fin 8) : s.StaysStopped (s.takeSlot i) := by
  have hgiven (u : State) (r : ProfileRecord) (timer : Option Nat) :
      u.StaysStopped ((((u.modSlot i fun sl => sl.handOver r).clearRails i).setHolder i .bench).modSlot i
        fun sl => { sl with holdTimer := timer }) :=
    (((u.staysStopped_handOver i r).trans (State.staysStopped_clearRails ..)).trans
      (State.staysStopped_setHolder ..)).trans (State.staysStopped_modSlot id)
  unfold State.takeSlot
  dsimp only
  split
  · exact (s.staysStopped_abandonOnPhase i .abort).trans (hgiven ..)
  · exact hgiven ..

theorem staysStopped_cmdTake (p : Party) (target arg : Nibble) (s : State) :
    s.StaysStopped (cmdTake p target arg s).1 := by
  unfold cmdTake
  repeat' split
  iterate 4 exact .refl s
  · exact s.staysStopped_restartHold p _
  · exact s.staysStopped_takeSlot _
  · exact .refl s

theorem State.staysStopped_drainToRestore (s : State) (i : Fin 8) (timer : Option Timer) :
    s.StaysStopped (s.drainToRestore i timer) :=
  (s.staysStopped_releaseBinding i).trans (State.staysStopped_modSlot fun _ => rfl)

theorem State.staysStopped_endBenchHold (s : State) (i : Fin 8) : s.StaysStopped (s.endBenchHold i) := by
  have hended : s.StaysStopped (s.endBenchContext i) := by
    unfold State.endBenchContext
    dsimp only
    split
    · exact (s.staysStopped_abandonOnPhase i .abort).trans (State.staysStopped_drainToRestore ..)
    · exact (s.staysStopped_drainToRestore i _).trans (State.staysStopped_clearRails ..)
    · exact s.staysStopped_drainToRestore i _
    · exact s.staysStopped_drainToRestore i _
    all_goals exact s.staysStopped_restore i
  exact (hended.trans (State.staysStopped_setHolder ..)).trans (State.staysStopped_modSlot id)

theorem State.staysStopped_holdExpiry (s : State) (i : Fin 8) : s.StaysStopped (s.holdExpiry i) := by
  unfold State.holdExpiry
  split
  · exact (s.staysStopped_endBenchHold i).trans (State.staysStopped_modSlot id)
  · exact .refl s

theorem staysStopped_cmdRelease (p : Party) (target arg : Nibble) (s : State) :
    s.StaysStopped (cmdRelease p target arg s).1 := by
  unfold cmdRelease
  repeat' split
  iterate 4 exact .refl s
  exact s.staysStopped_endBenchHold _

theorem staysStopped_cmdHoldTime (p : Party) (target arg : Nibble) (op : Word) (s : State) :
    s.StaysStopped (cmdHoldTime p target arg op s).1 := by
  unfold cmdHoldTime
  split
  · exact .refl s
  split
  · exact .refl s
  · exact State.staysStopped_of_same rfl rfl rfl rfl

/-! ## Stacks, faults, profiles and pairs -/

theorem staysStopped_cmdEvPeek (p : Party) (target arg : Nibble) (s : State) :
    s.StaysStopped (cmdEvPeek p target arg s).1 := by
  unfold cmdEvPeek
  split
  · exact .refl s
  · exact s.staysStopped_onAnySlot ..

theorem State.staysStopped_onStack {remove : Slot → Slot × Status} (h : ∀ sl, (remove sl).1.active = sl.active)
    (s : State) (p : Party) (target : Nibble) : s.StaysStopped (s.onStack p target remove).1 := by
  refine State.staysStopped_onHeldSlot (fun i u => ?_) s p target
  split
  · exact .refl u
  · refine State.StaysStopped.reply (State.staysStopped_modSlot fun hi => ?_) _
    rw [h]
    exact hi

theorem staysStopped_cmdEvFree (p : Party) (target arg : Nibble) (s : State) :
    s.StaysStopped (cmdEvFree p target arg s).1 := by
  unfold cmdEvFree
  split
  · exact .refl s
  · exact State.staysStopped_onStack (fun _ => rfl) s p target

theorem staysStopped_cmdFaultRead (p : Party) (target arg : Nibble) (op : Word) (s : State) :
    s.StaysStopped (cmdFaultRead p target arg op s).1 := by
  unfold cmdFaultRead
  split
  · exact State.staysStopped_of_same rfl rfl rfl rfl
  split
  · exact .refl s
  · dsimp only
    refine (s.staysStopped_restartHold p _).trans (State.staysStopped_modSlot fun hi => ?_)
    rw [(Slot.readFaults_kept ..).1]
    exact hi

theorem staysStopped_cmdAlertMask (p : Party) (target arg : Nibble) (op : Word) (s : State) :
    s.StaysStopped (cmdAlertMask p target arg op s).1 := by
  unfold cmdAlertMask
  split
  · exact .refl s
  · rw [s.setMask_frame p]
    exact State.staysStopped_of_same rfl rfl rfl rfl

theorem staysStopped_cmdProfileWrite (p : Party) (target arg : Nibble) (ops : List Word) (s : State) :
    s.StaysStopped (cmdProfileWrite p target arg ops s).1 := by
  unfold cmdProfileWrite
  dsimp only
  repeat' split
  iterate 3 exact .refl s
  all_goals exact State.staysStopped_of_same rfl rfl rfl rfl

/-- A PAIR leaves the upper slot's state (R135). -/
theorem State.staysStopped_setPair (s : State) (pr : Fin 4) (mode : PairMode) :
    s.StaysStopped (s.setPair pr mode) := by
  obtain ⟨u, -, hu, e⟩ := s.setPair_eq pr mode
  have hw : State.WorksAt (upperOf pr) s (s.setPair pr mode) := by
    rw [e]
    split
    · exact hu
    · exact hu.trans (u.worksAt_modSlot ..)
  refine hw.staysStopped fun _ hi => ?_
  rw [State.slot_setPair_upper]
  split
  · exact hi
  · exact hi

theorem staysStopped_cmdPair (p : Party) (target arg : Nibble) (s : State) :
    s.StaysStopped (cmdPair p target arg s).1 := by
  unfold cmdPair
  split
  · dsimp only
    split
    · exact .refl s
    split
    · exact (s.staysStopped_restartHold ..).trans (State.staysStopped_setPair ..)
    · exact s.staysStopped_restartHold ..
  · exact .refl s

theorem staysStopped_cmdPartStatus (p : Party) (target arg : Nibble) (s : State) :
    s.StaysStopped (cmdPartStatus p target arg s).1 := by
  unfold cmdPartStatus
  split <;> exact .refl s

/-! ## The part-wide commands -/

theorem staysStopped_cmdSetSampling (p : Party) (target arg : Nibble) (op : Word) (s : State) :
    s.StaysStopped (cmdSetSampling p target arg op s).1 := by
  unfold cmdSetSampling
  split
  · exact .refl s
  · exact State.staysStopped_partWide (fun _ => State.staysStopped_of_same rfl rfl rfl rfl) s p

theorem staysStopped_cmdTrimSet (p : Party) (target arg : Nibble) (op : Word) (s : State) :
    s.StaysStopped (cmdTrimSet p target arg op s).1 := by
  unfold cmdTrimSet
  split
  · exact .refl s
  · exact State.staysStopped_partWide (fun u => (u.staysStopped_modChannel _ _).reply _) s p

theorem staysStopped_cmdTrimRead (p : Party) (target arg : Nibble) (s : State) :
    s.StaysStopped (cmdTrimRead p target arg s).1 := by
  unfold cmdTrimRead
  split <;> exact .refl s

theorem staysStopped_cmdTrimProgram (p : Party) (target arg : Nibble) (s : State) :
    s.StaysStopped (cmdTrimProgram p target arg s).1 := by
  unfold cmdTrimProgram
  split
  · exact .refl s
  · refine State.staysStopped_partWide (fun u => ?_) s p
    split
    · exact .refl u
    · exact State.staysStopped_of_same rfl rfl rfl rfl

/-! ## The shelf inputs -/

/-- Nothing runs or is driven under a shelf hold, and the levels as taken are the live levels (R128, R130, R132). -/
structure State.ObeysHolds (s : State) : Prop where
  stops : s.HoldStopsRuns
  taken : s.LevelsTaken

theorem State.ObeysHolds.staysStopped {s t : State} (h : s.ObeysHolds) (ht : s.StaysStopped t) : t.ObeysHolds := by
  refine ⟨fun hhold i => ?_, fun hheld => ?_⟩
  · rw [ht.shelfHold] at hhold
    exact ht.slot i hhold (h.stops hhold i)
  · rw [State.held, ht.pins] at hheld
    rw [ht.heat, ht.supplyLow, ht.pins]
    exact h.taken hheld

/-- A part that is held takes no levels, whatever comes to its pins (R183). -/
theorem State.ObeysHolds.withPins {s : State} (h : s.ObeysHolds) {pins : Pins}
    (hheld : State.held { s with pins := pins } = true) : State.ObeysHolds { s with pins := pins } :=
  ⟨h.stops, fun hnot => Bool.noConfusion (hheld.symm.trans hnot)⟩

/-- A shelf hold that comes into force leaves no slot running (R129). -/
theorem Slot.pausedBy_not_stoppedByHold (sl : Slot) (env : Env) :
    (sl.pausedBy env).active.state.stoppedByHold = false := by
  unfold Slot.pausedBy
  cases h : sl.active.state with
  | runOn | runBleed | runRest | manual => rfl
  | idle | paused | drain | faulted => rw [h]; rfl

theorem State.levelsTaken_withInput {s : State} (h : s.LevelsTaken) (supply b : Bool) :
    (s.withInput supply b).LevelsTaken := by
  cases supply with
  | true => exact fun hheld => ⟨(h hheld).1, rfl⟩
  | false => exact fun hheld => ⟨rfl, (h hheld).2⟩

theorem State.slot_withInput (s : State) (supply b : Bool) (i : Fin 8) :
    (s.withInput supply b).slot i = s.slot i := by
  cases supply <;> rfl

theorem State.ObeysHolds.withPin {s : State} (h : s.ObeysHolds) (hheld : s.held = true) (supply b : Bool) :
    (s.withPin supply b).ObeysHolds := by
  cases supply with
  | true => exact h.withPins hheld
  | false => exact h.withPins hheld

/-- An input that changes while a hold is in force, the slots left as they are. -/
theorem State.ObeysHolds.withInput {s : State} (h : s.ObeysHolds) {supply b : Bool}
    (hhold : (s.withInput supply b).shelfHold = true → s.shelfHold = true) : (s.withInput supply b).ObeysHolds := by
  refine ⟨fun hheld i => ?_, State.levelsTaken_withInput h.taken supply b⟩
  rw [State.slot_withInput]
  exact h.stops (hhold hheld) i

theorem State.OnlySlotsAndRails.levelsTaken {s t : State} (ht : s.OnlySlotsAndRails t) (h : s.LevelsTaken) :
    t.LevelsTaken := by
  obtain ⟨-, hframe⟩ := ht
  rw [hframe]
  exact h

theorem State.OnlySlotsAndTrips.levelsTaken {s t : State} (ht : s.OnlySlotsAndTrips t) (h : s.LevelsTaken) :
    t.LevelsTaken := by
  obtain ⟨-, hframe⟩ := ht
  rw [hframe]
  exact h

theorem State.OnlySlotsAndTrips.shelfHold {s t : State} (ht : s.OnlySlotsAndTrips t) : t.shelfHold = s.shelfHold := by
  obtain ⟨-, hframe⟩ := ht
  rw [hframe]
  rfl

/-- A held part takes no input's change: it comes to the pin alone (R183). -/
theorem exec_inputAsserted_of_held {s : State} (h : s.held = true) (supply : Bool) :
    exec (if supply then .supplyLowAsserted else .heatAsserted) s = .next (s.withPin supply true) := by
  cases supply with
  | true =>
    exact State.live_of_held (s := s.withPin true true)
      (fun s => s.assertInput .supply s.supplyLow fun s => { s with supplyLow := true }) h
  | false =>
    exact State.live_of_held (s := s.withPin false true)
      (fun s => s.assertInput .heat s.heat fun s => { s with heat := true }) h

theorem exec_inputReleased_of_held {s : State} (h : s.held = true) (supply : Bool) :
    exec (if supply then .supplyLowReleased else .heatReleased) s = .next (s.withPin supply false) := by
  cases supply with
  | true =>
    exact State.live_of_held (s := s.withPin true false)
      (fun s => s.releaseInput fun s => { s with supplyLow := false }) h
  | false =>
    exact State.live_of_held (s := s.withPin false false)
      (fun s => s.releaseInput fun s => { s with heat := false }) h

theorem State.ObeysHolds.inputAsserted {s t : State} (h : s.ObeysHolds) (supply : Bool)
    (ht : exec (if supply then .supplyLowAsserted else .heatAsserted) s = .next t) : t.ObeysHolds := by
  cases hheld : s.held with
  | true =>
    rw [exec_inputAsserted_of_held hheld] at ht
    injection ht with ht
    rw [← ht]
    exact h.withPin hheld supply true
  | false =>
    rw [exec_inputAsserted hheld] at ht
    injection ht with ht
    rw [← ht]
    split
    next hlevel => exact h.withInput fun _ => by rw [s.shelfHold_eq supply, hlevel]; rfl
    split
    next hother =>
      have hinput := h.withInput (supply := supply) (b := true) fun _ => by
        rw [s.shelfHold_eq supply, hother, Bool.or_true]
      exact ⟨hinput.stops, hinput.taken⟩
    · obtain ⟨hslot, -, hframe⟩ := (s.withAsserted supply).pauseAll
      have htaken : (s.withAsserted supply).LevelsTaken := State.levelsTaken_withInput h.taken supply true
      refine ⟨fun _ i => ?_, hframe.levelsTaken htaken⟩
      rw [hslot]
      exact Slot.pausedBy_not_stoppedByHold ..

theorem State.ObeysHolds.inputReleased {s t : State} (h : s.ObeysHolds) (supply : Bool)
    (ht : exec (if supply then .supplyLowReleased else .heatReleased) s = .next t) : t.ObeysHolds := by
  have hlevel : (s.withInput supply false).inputLevel supply = false := by cases supply <;> rfl
  have hother : (s.withInput supply false).inputLevel (!supply) = s.inputLevel !supply := by cases supply <;> rfl
  have hhold : (s.withInput supply false).shelfHold = s.inputLevel !supply := by
    rw [(s.withInput supply false).shelfHold_eq supply, hlevel, hother, Bool.false_or]
  cases hheld : s.held with
  | true =>
    rw [exec_inputReleased_of_held hheld] at ht
    injection ht with ht
    rw [← ht]
    exact h.withPin hheld supply false
  | false =>
    rw [exec_inputReleased hheld] at ht
    injection ht with ht
    rw [← ht]
    split
    next hlast =>
      obtain ⟨hframe, -⟩ := State.atEverySlot_slot (R := State.OnlySlotsAndTrips) State.worksAt_resumeSlot
        .refl (fun _ _ _ h h' => h.trans h') State.onlySlotsAndTrips_resumeSlot (s.withInput supply false)
      refine ⟨fun hin => ?_, hframe.levelsTaken (State.levelsTaken_withInput h.taken supply false)⟩
      exact Bool.noConfusion (hin.symm.trans (hframe.shelfHold.trans (hhold.trans hlast.2)))
    next =>
      exact h.withInput fun hin => by rw [s.shelfHold_eq supply, ← hhold, hin, Bool.or_true]

/-! ## Resets -/

/-- A reset leaves every slot IDLE and reads the live levels (R1, R132). -/
theorem State.obeysHolds_resetAll (s : State) (cause : ResetCause) : (s.resetAll cause).ObeysHolds := by
  refine ⟨fun _ i => ?_, fun _ => ⟨rfl, rfl⟩⟩
  rw [State.slot_resetAll]
  rfl

theorem State.ObeysHolds.hold {s : State} (h : s.ObeysHolds) : s.hold.ObeysHolds := ⟨h.stops, h.taken⟩

theorem State.ObeysHolds.cmdDeviceReset {s : State} (h : s.ObeysHolds) (p : Party) (target arg : Nibble) :
    (cmdDeviceReset p target arg s).1.ObeysHolds := by
  unfold Machine.cmdDeviceReset
  repeat' split
  iterate 3 exact h
  exact s.obeysHolds_resetAll .command

/-! ## Every command, every event, every step -/

theorem State.ObeysHolds.act {s : State} (h : s.ObeysHolds) (c : Cmd) (p : Party) (target arg : Nibble)
    (ops : List Word) : (Cmd.act c p target arg ops s).1.ObeysHolds := by
  cases c with
  | bind => exact h.staysStopped (staysStopped_cmdBind p target arg s)
  | unbind => exact h.staysStopped (staysStopped_cmdUnbind p target arg s)
  | start => exact h.staysStopped (staysStopped_cmdStart p target arg s)
  | stop => exact h.staysStopped (staysStopped_cmdStop p target arg s)
  | ack => exact h.staysStopped (staysStopped_cmdAck p target arg s)
  | drive => exact h.staysStopped (staysStopped_cmdDrive p target arg _ s)
  | setConv => exact h.staysStopped (staysStopped_cmdSetConv p target arg _ s)
  | slotInit => exact h.staysStopped (staysStopped_cmdSlotInit p target arg s)
  | status => exact h.staysStopped (s.staysStopped_onAnySlot ..)
  | summaryRead => exact h.staysStopped (staysStopped_cmdSummaryRead p target arg s)
  | take => exact h.staysStopped (staysStopped_cmdTake p target arg s)
  | release => exact h.staysStopped (staysStopped_cmdRelease p target arg s)
  | holdTime => exact h.staysStopped (staysStopped_cmdHoldTime p target arg _ s)
  | evPeek => exact h.staysStopped (staysStopped_cmdEvPeek p target arg s)
  | evRetire => exact h.staysStopped (State.staysStopped_onStack (fun _ => rfl) s p target)
  | evFree => exact h.staysStopped (staysStopped_cmdEvFree p target arg s)
  | evClear => exact h.staysStopped (State.staysStopped_onStack (fun _ => rfl) s p target)
  | faultRead => exact h.staysStopped (staysStopped_cmdFaultRead p target arg _ s)
  | alertMask => exact h.staysStopped (staysStopped_cmdAlertMask p target arg _ s)
  | profileWrite => exact h.staysStopped (staysStopped_cmdProfileWrite p target arg ops s)
  | profileRead => exact h
  | pair => exact h.staysStopped (staysStopped_cmdPair p target arg s)
  | partStatus => exact h.staysStopped (staysStopped_cmdPartStatus p target arg s)
  | setSampling => exact h.staysStopped (staysStopped_cmdSetSampling p target arg _ s)
  | trimSet => exact h.staysStopped (staysStopped_cmdTrimSet p target arg _ s)
  | trimRead => exact h.staysStopped (staysStopped_cmdTrimRead p target arg s)
  | trimProgram => exact h.staysStopped (staysStopped_cmdTrimProgram p target arg s)
  | deviceReset => exact h.cmdDeviceReset p target arg

theorem State.ObeysHolds.takes {s t : State} (h : s.ObeysHolds) (ht : s.Takes t) : t.ObeysHolds := by
  cases ht with
  | wires hw => exact h.staysStopped hw.staysStopped
  | command c p target arg ops hu _ _ hw =>
    exact ((h.staysStopped hu.staysStopped).act c p target arg ops).staysStopped hw.staysStopped

theorem State.ObeysHolds.live {s t : State} (h : s.ObeysHolds) {f : State → State}
    (hf : ∀ u : State, u.StaysStopped (f u)) (ht : s.live f = .next t) : t.ObeysHolds := by
  unfold State.live at ht
  injection ht with ht
  rw [← ht]
  split
  · exact h
  · exact h.staysStopped (hf s)

theorem State.ObeysHolds.event {s t : State} (h : s.ObeysHolds) {e : Instr} (he : isEvent e = true)
    (ht : exec e s = .next t) : t.ObeysHolds := by
  cases e with
  | sampleArrival ch code => exact h.live (fun u => u.staysStopped_sampleArrival ch code) ht
  | pairSampleEvent pr x y => exact h.live (fun u => u.staysStopped_pairSample pr x y) ht
  | onTimeExpiry i => exact h.live (fun u => u.staysStopped_onTimeExpiry i) ht
  | bleedExpiry i => exact h.live (fun u => u.staysStopped_bleedExpiry i) ht
  | restExpiry i => exact h.live (fun u => u.staysStopped_restExpiry i) ht
  | endOfLead i => exact h.live (fun u => u.staysStopped_endOfLead i) ht
  | drainCompletion i => exact h.live (fun u => u.staysStopped_drainCompletion i) ht
  | holdTimerExpiry i => exact h.live (fun u => u.staysStopped_holdExpiry i) ht
  | trimProgrammingCompletion => exact h.live State.staysStopped_completeProgramming ht
  | heatAsserted => exact h.inputAsserted false ht
  | heatReleased => exact h.inputReleased false ht
  | supplyLowAsserted => exact h.inputAsserted true ht
  | supplyLowReleased => exact h.inputReleased true ht
  | resetLineAsserted =>
    injection ht with ht
    rw [← ht]
    split
    · exact h
    · exact (h.withPins rfl).hold
  | resetLineReleased =>
    injection ht with ht
    rw [← ht]
    split
    · dsimp only
      split
      · exact State.obeysHolds_resetAll _ .line
      next hsupply => exact h.withPins (by simp [State.held, hsupply])
    · exact h
  | logicSupplyLoss =>
    injection ht with ht
    rw [← ht]
    split
    · exact (h.withPins (by simp [State.held])).hold
    · exact h
  | powerOn =>
    injection ht with ht
    rw [← ht]
    split
    · exact h
    · exact State.obeysHolds_resetAll _ .power
  | _ => exact Bool.noConfusion he

theorem State.ObeysHolds.exec {s t : State} (h : s.ObeysHolds) {c : Instr} (ht : exec c s = .next t) :
    t.ObeysHolds := by
  cases hc : isEvent c with
  | true => exact h.event hc ht
  | false =>
    obtain ⟨t', ht', htakes⟩ := exec_takes c s hc
    rw [ht] at ht'
    injection ht' with e
    rw [e]
    exact h.takes htakes

theorem State.ObeysHolds.step {s t : State} (h : s.ObeysHolds) (ht : step s = .next t) : t.ObeysHolds := by
  have hwires {u : State} (hu : s.OnlyWires u) : u.ObeysHolds := h.staysStopped hu.staysStopped
  unfold Machine.step at ht
  split at ht
  next rest _ => exact State.ObeysHolds.exec (s := { s with pending := rest }) (hwires rfl) ht
  · unfold idleStep at ht
    split at ht
    · exact State.ObeysHolds.exec (s := s.useFree) (hwires rfl) ht
    · injection ht with ht
      rw [← ht]
      exact h.staysStopped s.staysStopped_tick

/-- Settles O10: under a hold no operation sets a slot running, the first input asserted pauses every slot, and a reset
takes the live levels with every slot IDLE. -/
theorem shelfHoldStopsRuns : Obligations.ShelfHoldStopsRuns := fun _ _ hstops htaken hstep =>
  have h := State.ObeysHolds.step ⟨hstops, htaken⟩ hstep
  ⟨h.stops, h.taken⟩

end Sys2Proof.Machine
end

section
/-!
SUPPORT. The shape of a context (1.1, 1.2) through the slot engine: which operations leave it, which give a context a new one, and
what they leave of the slot's hold (`State.Steers`).
-/

namespace Sys2Proof.Machine

/-! ## Shapes -/

/-- State and drain-next are as they were, and so is whether the phase timer runs and whether there is a sub-phase. -/
structure Context.SameShape (c c' : Context) : Prop where
  state : c'.state = c.state
  next : c'.drainNext = c.drainNext
  timer : c'.timer.isSome = c.timer.isSome
  subPhase : c'.subPhase.isSome = c.subPhase.isSome

theorem Context.SameShape.refl (c : Context) : c.SameShape c := ⟨rfl, rfl, rfl, rfl⟩

theorem Context.SameShape.shaped {c c' : Context} (h : c.SameShape c') (hc : c.Shaped) : c'.Shaped := by
  unfold Context.Shaped
  rw [h.state, h.next, h.timer, h.subPhase]
  exact hc

/-- A context that is shaped and is not to restore another when it drains. -/
structure Context.Settled (c : Context) : Prop where
  shaped : c.Shaped
  next : c.drainNext ≠ some .restore

/-- Outside DRAIN there is no drain-next. -/
theorem Context.Shaped.settled {c : Context} (h : c.Shaped) (hs : c.state ≠ .drain) : c.Settled := by
  obtain ⟨-, hnext, -⟩ := id h
  refine ⟨h, fun e => ?_⟩
  rw [e, decide_eq_false hs] at hnext
  cases hnext

/-- In a timed state the phase timer runs (1.2). -/
theorem Context.Shaped.timer_isSome {c : Context} (h : c.Shaped) {st : SlotState} (hs : c.state = st)
    (hst : st.timed = true) : c.timer.isSome = true := by
  obtain ⟨htimer, -⟩ := h
  rw [htimer, hs, hst]

theorem Context.settled_reset : Context.reset.Settled := ⟨⟨rfl, rfl, rfl⟩, nofun⟩

/-- The bench's fresh context drains on the bleed that is running, where there is one (R149). -/
theorem Context.Shaped.freshContext {c : Context} (h : c.Shaped) (r : ProfileRecord) : (freshContext r c).Settled := by
  unfold Machine.freshContext
  split
  · exact ⟨⟨rfl, rfl, rfl⟩, nofun⟩
  · exact ⟨⟨rfl, rfl, rfl⟩, nofun⟩
  next hs => exact ⟨⟨h.timer_isSome hs rfl, rfl, rfl⟩, nofun⟩
  all_goals exact Context.settled_reset

/-- Wherever a run goes on to, its context is shaped anew. -/
theorem State.goneOn_settled (s : State) (i : Fin 8) (hold : Bool) (sl : Slot) (c : Context) :
    (s.goneOn i hold sl c).active.Settled := by
  unfold State.goneOn
  dsimp only
  repeat' split
  all_goals exact ⟨⟨rfl, rfl, rfl⟩, nofun⟩

/-! ## The work of the engine at a slot -/

/-- A slot's hold is left as it is, its context stays shaped, and it is to restore another only if it was. -/
structure Slot.Steered (sl sl' : Slot) : Prop where
  holder : sl'.holder = sl.holder
  parked : sl'.parked = sl.parked
  holdTimer : sl'.holdTimer = sl.holdTimer
  shaped : sl.active.Shaped → sl'.active.Shaped
  next : sl'.active.drainNext = some .restore → sl.active.drainNext = some .restore

theorem Slot.Steered.refl (sl : Slot) : sl.Steered sl := ⟨rfl, rfl, rfl, id, id⟩

theorem Slot.Steered.trans {sl sl' sl'' : Slot} (h : sl.Steered sl') (h' : sl'.Steered sl'') : sl.Steered sl'' :=
  ⟨h'.holder.trans h.holder, h'.parked.trans h.parked, h'.holdTimer.trans h.holdTimer, h'.shaped ∘ h.shaped,
    h.next ∘ h'.next⟩

section
variable {sl sl' : Slot} (hholder : sl'.holder = sl.holder) (hparked : sl'.parked = sl.parked)
  (htimer : sl'.holdTimer = sl.holdTimer)
include hholder hparked htimer

theorem Slot.steered_of_sameShape (h : sl.active.SameShape sl'.active) : sl.Steered sl' :=
  ⟨hholder, hparked, htimer, h.shaped, fun e => h.next ▸ e⟩

theorem Slot.steered_of_settled (h : sl'.active.Settled) : sl.Steered sl' :=
  ⟨hholder, hparked, htimer, fun _ => h.shaped, fun e => absurd e h.next⟩

end

/-- A summary moves no part of the shape. -/
theorem Slot.steered_formSummary (sl : Slot) (env : Env) (v : Verdict) (last : Bool) :
    sl.Steered (sl.formSummary env v last) :=
  Slot.steered_of_sameShape (by simp) (by simp) (by simp) (by rw [Slot.formSummary_active]; exact ⟨rfl, rfl, rfl, rfl⟩)

theorem Slot.steered_failed (sl : Slot) (r : ProfileRecord) (current : Nat) (cause : Cause) :
    sl.Steered (sl.failed r current cause) := by
  have htimer : (sl.failed r current cause).holdTimer = sl.holdTimer := by simp [Slot.failed]
  refine Slot.steered_of_sameShape (sl.failed_holder ..) (sl.failed_parked ..) htimer ?_
  rw [Slot.failed_active]
  exact ⟨rfl, rfl, rfl, rfl⟩

theorem Slot.steered_goneOn (s : State) (i : Fin 8) (hold : Bool) (sl : Slot) (c : Context) :
    sl.Steered (s.goneOn i hold sl c) := by
  have hkept : (s.goneOn i hold sl c).holder = sl.holder ∧ (s.goneOn i hold sl c).holdTimer = sl.holdTimer := by
    unfold State.goneOn
    dsimp only
    repeat' split
    all_goals exact ⟨rfl, rfl⟩
  exact Slot.steered_of_settled hkept.1 (s.goneOn_parked ..) hkept.2 (s.goneOn_settled ..)

/-- A counted sample leaves RUN-ON with a sub-phase (R8). -/
theorem State.steered_countedSlot {s : State} {i : Fin 8} (h : (s.slot i).active.state = .runOn) :
    (s.slot i).Steered (s.countedSlot i) := by
  obtain ⟨-, -, -, hparked⟩ := s.countedSlot_kept i
  have htimer : (s.countedSlot i).holdTimer = (s.slot i).holdTimer :=
    State.countedSlot_keeps (fun _ _ => rfl) (fun _ _ => rfl) (fun sl r => by simp) s i
  refine ⟨s.countedSlot_holder i, hparked, htimer, fun hshaped => ?_, id⟩
  obtain ⟨htimed, hnext, -⟩ := hshaped
  exact ⟨htimed, hnext, (decide_eq_true h).symm⟩

/-! ## The work of the engine on the part -/

/-- A run's own work, which leaves its slot's hold and keeps its context shaped. -/
structure State.Steers (i : Fin 8) (s t : State) : Prop where
  runs : State.RunsAt i s t
  slot : (s.slot i).Steered (t.slot i)

theorem State.Steers.refl (i : Fin 8) (s : State) : State.Steers i s s := ⟨.refl i s, .refl _⟩

theorem State.Steers.trans {i : Fin 8} {s u t : State} (h : State.Steers i s u) (h' : State.Steers i u t) :
    State.Steers i s t := ⟨h.runs.trans h'.runs, h.slot.trans h'.slot⟩

/-- Work at channels alone. -/
theorem State.RunsAt.steers {i : Fin 8} {s t : State} (h : State.RunsAt i s t) (hslot : t.slot i = s.slot i) :
    State.Steers i s t := ⟨h, hslot ▸ .refl _⟩

theorem State.steers_modSlot {s : State} {i : Fin 8} {f : Slot → Slot} (h : (s.slot i).Steered (f (s.slot i))) :
    State.Steers i s (s.modSlot i f) :=
  ⟨s.runsAt_modSlot i f, by rw [State.slot_modSlot_self]; exact h⟩

/-- A slot enters a state with the timer and the drain-next of that state. -/
theorem State.steers_enter (s : State) (i : Fin 8) {st : SlotState} {timer : Option Timer} {next : Option DrainNext}
    (h : ((s.slot i).active.enter st timer next).Settled) :
    State.Steers i s (s.modSlot i fun sl => sl.enter st timer next) :=
  State.steers_modSlot (Slot.steered_of_settled rfl rfl rfl h)

/-- Into an untimed state there is no drain-next to give. -/
theorem State.steers_rest (s : State) (i : Fin 8) {st : SlotState} (h : st.timed = false) :
    State.Steers i s (s.modSlot i fun sl => sl.enter st none) := by
  refine s.steers_enter i ⟨⟨h.symm, ?_, ?_⟩, nofun⟩
  all_goals
    refine (decide_eq_false fun e => ?_).symm
    obtain rfl : st = _ := e
    cases h

theorem State.steers_clearTrips (s : State) (i : Fin 8) : State.Steers i s (s.clearTrips i) :=
  (s.runsAt_clearTrips i).steers (s.slot_clearTrips i i)

theorem State.steers_beginOnPhase (s : State) (i : Fin 8) : State.Steers i s (s.beginOnPhase i) := by
  refine ⟨s.runsAt_beginOnPhase i, ?_⟩
  rw [State.slot_beginOnPhase]
  exact Slot.steered_of_settled rfl rfl rfl ⟨⟨rfl, rfl, rfl⟩, nofun⟩

theorem State.steers_resumeRun (s : State) (i : Fin 8) (hold : Bool) : State.Steers i s (s.resumeRun i hold) :=
  ⟨s.runsAt_resumeRun i hold, by rw [State.slot_resumeRun]; exact Slot.steered_goneOn ..⟩

theorem State.steers_enterOffPhase (s : State) (i : Fin 8) : State.Steers i s (s.enterOffPhase i) := by
  rw [State.enterOffPhase_eq]
  split
  · exact s.steers_enter i ⟨⟨rfl, rfl, rfl⟩, nofun⟩
  · exact s.steers_resumeRun i false

theorem State.steers_abandonOnPhase (s : State) (i : Fin 8) (v : Verdict) : State.Steers i s (s.abandonOnPhase i v) :=
  State.steers_modSlot (Slot.steered_formSummary ..)

theorem State.steers_countOnPhase (s : State) (i : Fin 8) (v : Verdict) : State.Steers i s (s.countOnPhase i v) := by
  have hcounted : (s.slot i).Steered (s.countedCycle i v) :=
    (Slot.steered_formSummary ..).trans (Slot.steered_of_sameShape rfl rfl rfl ⟨rfl, rfl, rfl, rfl⟩)
  rw [State.countOnPhase_eq]
  exact (State.steers_modSlot (f := fun _ => s.countedCycle i v) hcounted).trans (State.steers_enterOffPhase ..)

theorem State.steers_enterDrain (s : State) (i : Fin 8) {x : DrainNext} (h : x ≠ .restore) :
    State.Steers i s (s.enterDrain i x) :=
  s.steers_enter i ⟨⟨rfl, rfl, rfl⟩, fun e => h (Option.some.inj e)⟩

/-- A drain that continues a bleed has its timer (R13). -/
theorem State.steers_continueDrain {s : State} {i : Fin 8} (hs : (s.slot i).active.state = .runBleed) {x : DrainNext}
    (h : x ≠ .restore) : State.Steers i s (s.continueDrain i x) :=
  State.steers_modSlot ⟨rfl, rfl, rfl, fun hshaped => ⟨hshaped.timer_isSome hs rfl, rfl, rfl⟩,
    fun e => absurd (Option.some.inj e) h⟩

theorem State.steers_applyOnFail (s : State) (i : Fin 8) : State.Steers i s (s.applyOnFail i) := by
  unfold State.applyOnFail
  split
  · exact .refl i s
  · exact s.steers_countOnPhase i _
  · exact (s.steers_abandonOnPhase i _).trans (State.steers_enterDrain _ i nofun)

theorem State.steers_countedSample {s : State} {i : Fin 8} (h : (s.slot i).active.state = .runOn) :
    State.Steers i s (s.countedSample i) := by
  have hcounted := State.steered_countedSlot h
  cases hout : (s.checkerOut i).2 with
  | none =>
    rw [State.countedSample_of_pass hout]
    exact State.steers_modSlot hcounted
  | some cause =>
    rw [State.countedSample_of_fail hout]
    exact (State.steers_modSlot (f := fun _ => (s.countedSlot i).failed _ _ cause)
      (hcounted.trans (Slot.steered_failed ..))).trans (State.steers_applyOnFail ..)

/-- A trip steers its slot into DRAIN before the rail requests go (R122, R123). -/
theorem State.trip_steers (s : State) (i : Fin 8) (t : TripCheck) :
    ∃ u, State.Steers i s u ∧ s.trip i t = u.clearRails i := by
  have hnoted : State.Steers i s ((s.recordTrip i t).clearTrips i) := by
    refine (State.steers_modSlot (Slot.steered_of_sameShape ?_ ?_ ?_ ?_)).trans (State.steers_clearTrips ..)
    iterate 3 simp
    rw [Slot.push_active, Slot.raise_active]
    exact .refl _
  refine ⟨_, ?_, rfl⟩
  refine State.Steers.trans ?_ (State.steers_enterDrain _ i (x := .faulted) nofun)
  split
  · exact hnoted.trans (State.steers_abandonOnPhase ..)
  · exact hnoted

theorem State.steers_onTimeExpiry (s : State) (i : Fin 8) : State.Steers i s (s.onTimeExpiry i) := by
  unfold State.onTimeExpiry
  dsimp only
  split
  · refine (State.steers_modSlot ?_).trans (State.steers_countOnPhase ..)
    rw [Slot.closeWalk_eq]
    split
    · exact .refl _
    · exact Slot.steered_failed ..
  · exact .refl i s

/-- LEAD gives way to the next sub-phase, the phase timer running on (R141). -/
theorem State.steers_endOfLead (s : State) (i : Fin 8) : State.Steers i s (s.endOfLead i) := by
  unfold State.endOfLead
  split
  next h =>
    obtain ⟨-, hlead⟩ := h
    refine State.steers_modSlot (Slot.steered_of_sameShape rfl rfl rfl ⟨rfl, rfl, Option.isSome_map .., ?_⟩)
    rw [hlead]
    rfl
  · exact .refl i s

/-- A context that is restored is shaped anew, whatever it was parked as (R156). -/
theorem State.settleRestored_settled (s : State) (i : Fin 8) :
    (s.slot i).Steered ((s.settleRestored i).slot i) ∧ ((s.settleRestored i).slot i).active.Settled := by
  have hentered {st : SlotState} (h : ((s.slot i).active.enter st none).Settled) :
      (s.slot i).Steered ((s.modSlot i fun sl => sl.enter st none).slot i)
        ∧ ((s.modSlot i fun sl => sl.enter st none).slot i).active.Settled := by
    rw [State.slot_modSlot_self]
    exact ⟨Slot.steered_of_settled rfl rfl rfl h, h⟩
  have hresumed : (s.slot i).Steered ((s.resumeRun i s.shelfHold).slot i)
      ∧ ((s.resumeRun i s.shelfHold).slot i).active.Settled := by
    rw [State.slot_resumeRun]
    exact ⟨Slot.steered_goneOn .., s.goneOn_settled ..⟩
  rw [State.settleRestored_eq]
  split
  · exact hentered ⟨⟨rfl, rfl, rfl⟩, nofun⟩
  iterate 4 exact hresumed
  all_goals exact hentered ⟨⟨rfl, rfl, rfl⟩, nofun⟩

end Sys2Proof.Machine
end

section
/-!
SUPPORT. The holds of the part and the shapes of its contexts as one invariant (`State.Orderly`), what the work of one slot must
leave for it to stand, and for the rail requests of the pairs to stand in MANUAL alone (`State.Keeps`).
-/

namespace Sys2Proof.Machine

/-! ## The invariant -/

/-- A slot that does not stand aside: the bench holds it with a context parked and the hold timer running, the rack with the
timer stopped, and with a context parked only in a drain to RESTORE (R148, R150, R155). -/
structure Slot.Orderly (sl : Slot) : Prop where
  bench : sl.holder = .bench → sl.parked.isSome = true ∧ sl.holdTimer.isSome = true
  rack : sl.holder = .rack → sl.holdTimer = none
  parked : sl.ParkedOnlyWhileHeld
  restores : sl.active.drainNext = some .restore → sl.holder = .rack ∧ sl.parked.isSome = true
  shaped : sl.active.Shaped

/-- An upper slot that stands aside to a slot held by `p` (R137). -/
structure Slot.Aside (sl : Slot) (p : Party) : Prop where
  holder : sl.holder = p
  idle : sl.active.state = .idle
  unbound : sl.active.bound = none
  unparked : sl.parked = none
  stopped : sl.holdTimer = none
  shaped : sl.active.Shaped

/-- Every slot is orderly, or stands aside to the lower slot of its pair. -/
structure State.Orderly (s : State) : Prop where
  slot (i : Fin 8) : s.upperPaired i = false → (s.slot i).Orderly
  aside (q : Fin 4) : (s.pair q).mode ≠ .separate → (s.slot (upperOf q)).Aside (s.slot (lowerOf q)).holder

theorem Slot.Aside.withHolder {sl : Slot} {p : Party} (h : sl.Aside p) (p' : Party) :
    ({ sl with holder := p' } : Slot).Aside p' := ⟨rfl, h.idle, h.unbound, h.unparked, h.stopped, h.shaped⟩

/-- A slot of the part is orderly, or is the upper slot of a paired pair. -/
theorem State.orderly_or_upper (s : State) (i : Fin 8) :
    s.upperPaired i = false ∨ ∃ q, upperOf q = i ∧ (s.pair q).mode ≠ .separate := by
  cases hu : s.upperPaired i with
  | false => exact .inl rfl
  | true =>
    have hi : upperOf (pairOf i) = i := eq_upperOf_of_upper (by simp_all [State.upperPaired])
    rw [← hi, State.upperPaired_upperOf] at hu
    exact .inr ⟨_, hi, hu⟩

theorem State.Orderly.shaped {s : State} (h : s.Orderly) (i : Fin 8) : (s.slot i).active.Shaped := by
  rcases s.orderly_or_upper i with hu | ⟨q, rfl, hq⟩
  · exact (h.slot i hu).shaped
  · exact (h.aside q hq).shaped

/-- The invariant is the three predicates of the statement. -/
theorem State.orderly_iff (s : State) : s.Orderly ↔ s.BenchHoldsStand ∧ s.HoldsStand ∧ s.Shaped := by
  refine ⟨fun h => ⟨fun i => ?_, ⟨fun q hq => ?_, fun i => ?_⟩, h.shaped⟩, fun h => ⟨fun i hu => ?_, fun q hq => ?_⟩⟩
  · rcases s.orderly_or_upper i with hu | ⟨q, rfl, hq⟩
    · obtain ⟨hbench, hrack, -, hrestores, -⟩ := h.slot i hu
      exact ⟨fun hb _ => hbench hb, hrack, hrestores⟩
    · obtain ⟨-, hidle, -, -, hstopped, hshaped⟩ := h.aside q hq
      refine ⟨fun _ hu => ?_, fun _ => hstopped, fun e => ?_⟩
      · rw [(s.upperPaired_upperOf q).mpr hq] at hu
        cases hu
      · exact absurd e (hshaped.settled (by rw [hidle]; decide)).next
  · obtain ⟨hholder, hidle, hunbound, hunparked, hstopped, -⟩ := h.aside q hq
    exact ⟨hholder, hidle, hunbound, hunparked, hstopped⟩
  · rcases s.orderly_or_upper i with hu | ⟨q, rfl, hq⟩
    · exact (h.slot i hu).parked
    · intro hp
      rw [(h.aside q hq).unparked] at hp
      cases hp
  · obtain ⟨hholds, ⟨-, hparked⟩, hshaped⟩ := h
    obtain ⟨hbench, hrack, hrestores⟩ := hholds i
    exact ⟨fun hb => hbench hb hu, hrack, hparked i, hrestores, hshaped i⟩
  · obtain ⟨-, ⟨haside, -⟩, hshaped⟩ := h
    obtain ⟨hholder, hidle, hunbound, hunparked, hstopped⟩ := haside q hq
    exact ⟨hholder, hidle, hunbound, hunparked, hstopped, hshaped _⟩

/-- A slot that does anything, or whose hold timer runs, does not stand aside. -/
theorem State.Orderly.not_aside {s : State} (h : s.Orderly) {i : Fin 8}
    (hbusy : (s.slot i).active.state ≠ .idle ∨ (s.slot i).holdTimer.isSome = true) : s.upperPaired i = false := by
  refine (s.orderly_or_upper i).resolve_right ?_
  rintro ⟨q, rfl, hq⟩
  obtain ⟨-, hidle, -, -, hstopped, -⟩ := h.aside q hq
  rcases hbusy with hb | hb
  · exact hb hidle
  · rw [hstopped] at hb
    cases hb

/-! ## What one slot must leave -/

/-- A slot that is not draining to RESTORE parks a context only for the bench, and so may go where the engine steers it. -/
theorem Slot.Orderly.steered {sl sl' : Slot} (h : sl.Orderly) (hs : sl.Steered sl')
    (hdrain : ¬ (sl.active.state = .drain ∧ sl.active.drainNext = some .restore)) : sl'.Orderly := by
  obtain ⟨hholder, hparked, htimer, hshaped, hnext⟩ := hs
  refine ⟨?_, ?_, h.parked.keep hholder hparked hdrain, fun e => ?_, hshaped h.shaped⟩
  · rw [hholder, hparked, htimer]
    exact h.bench
  · rw [hholder, htimer]
    exact h.rack
  · rw [hholder, hparked]
    exact h.restores (hnext e)

/-- A rack-held slot with its timer stopped and nothing parked. -/
theorem Slot.orderly_of_unparked {sl : Slot} (hholder : sl.holder = .rack) (htimer : sl.holdTimer = none)
    (hparked : sl.parked = none) (h : sl.active.Settled) : sl.Orderly :=
  ⟨fun e => (by rw [hholder] at e; cases e), fun _ => htimer, fun e => (by rw [hparked] at e; cases e),
    fun e => absurd e h.next, h.shaped⟩

/-- The other slots and the modes stand. -/
structure State.OnlyAt (i : Fin 8) (s t : State) : Prop where
  others (j : Fin 8) : j ≠ i → t.slot j = s.slot j
  modes (q : Fin 4) : (t.pair q).mode = (s.pair q).mode

theorem State.OnlyAt.trans {i : Fin 8} {s u t : State} (h : State.OnlyAt i s u) (h' : State.OnlyAt i u t) :
    State.OnlyAt i s t :=
  ⟨fun j hj => (h'.others j hj).trans (h.others j hj), fun q => (h'.modes q).trans (h.modes q)⟩

theorem State.OwnWork.onlyAt {i : Fin 8} {s t : State} (h : State.OwnWork i s t) : State.OnlyAt i s t :=
  ⟨h.others, h.modes⟩

/-- The other slots and the pairs stand, rail requests included. -/
structure State.SparesPairs (i : Fin 8) (s t : State) : Prop where
  others (j : Fin 8) : j ≠ i → t.slot j = s.slot j
  pairs (q : Fin 4) : t.pair q = s.pair q

theorem State.SparesPairs.refl (i : Fin 8) (s : State) : State.SparesPairs i s s := ⟨fun _ _ => rfl, fun _ => rfl⟩

theorem State.SparesPairs.trans {i : Fin 8} {s u t : State} (h : State.SparesPairs i s u) (h' : State.SparesPairs i u t) :
    State.SparesPairs i s t :=
  ⟨fun j hj => (h'.others j hj).trans (h.others j hj), fun q => (h'.pairs q).trans (h.pairs q)⟩

theorem State.SparesPairs.onlyAt {i : Fin 8} {s t : State} (h : State.SparesPairs i s t) : State.OnlyAt i s t :=
  ⟨h.others, fun q => congrArg Pair.mode (h.pairs q)⟩

theorem State.RunsAt.sparesPairs {i : Fin 8} {s t : State} (h : State.RunsAt i s t) : State.SparesPairs i s t :=
  ⟨fun _ hj => h.slot_ne hj, h.pair⟩

theorem State.sparesPairs_modSlot (i : Fin 8) (s : State) (f : Slot → Slot) : State.SparesPairs i s (s.modSlot i f) :=
  (s.runsAt_modSlot i f).sparesPairs

theorem State.sparesPairs_releaseBinding (s : State) (i : Fin 8) : State.SparesPairs i s (s.releaseBinding i) :=
  ⟨(s.worksAt_releaseBinding i).1, fun q => by rw [State.releaseBinding_frame]; rfl⟩

theorem State.SparesPairs.clearRails {i : Fin 8} {s t : State} (h : State.SparesPairs i s t) :
    State.OnlyAt i s (t.clearRails i) := h.onlyAt.trans (t.ownWork_clearRails i).onlyAt

theorem State.upperPaired_congr {s t : State} (h : ∀ q, (t.pair q).mode = (s.pair q).mode) (i : Fin 8) :
    t.upperPaired i = s.upperPaired i := by
  simp only [State.upperPaired, State.isPaired, State.mode, h]

section
variable {s t : State} {i : Fin 8} (hs : s.Orderly) (hu : s.upperPaired i = false)
include hs hu

/-- The work of a slot that does not stand aside, its holder kept. -/
theorem State.Orderly.at (h : State.OnlyAt i s t) (hholder : (t.slot i).holder = (s.slot i).holder)
    (hi : (t.slot i).Orderly) : t.Orderly := by
  refine ⟨fun j hj => ?_, fun q hq => ?_⟩
  · by_cases e : j = i
    · exact e ▸ hi
    · rw [State.upperPaired_congr h.modes] at hj
      rw [h.others j e]
      exact hs.slot j hj
  · rw [h.modes] at hq
    have hne : upperOf q ≠ i := fun e => by
      rw [← e, (s.upperPaired_upperOf q).mpr hq] at hu
      cases hu
    have hlower : (t.slot (lowerOf q)).holder = (s.slot (lowerOf q)).holder := by
      by_cases e : lowerOf q = i
      · rw [e, hholder]
      · rw [h.others _ e]
    rw [h.others _ hne, hlower]
    exact hs.aside q hq

/-- The same where the slot changes hands, and the slot that stands aside to it with it (R137). -/
theorem State.Orderly.setHold (h : State.OnlyAt i s t) {p : Party} {timer : Option Nat}
    (hi : ({ t.slot i with holder := p, holdTimer := timer } : Slot).Orderly) :
    ((t.setHolder i p).modSlot i fun sl => { sl with holdTimer := timer }).Orderly := by
  have hmodes (q : Fin 4) :
      (((t.setHolder i p).modSlot i fun sl => { sl with holdTimer := timer }).pair q).mode = (s.pair q).mode := by
    rw [State.setHolder_frame]
    exact h.modes q
  have hself : ((t.setHolder i p).modSlot i fun sl => { sl with holdTimer := timer }).slot i =
      { t.slot i with holder := p, holdTimer := timer } := by
    rw [State.slot_modSlot_self, State.slot_setHolder, if_pos (.inl rfl)]
  have hother {j : Fin 8} (hj : j ≠ i) : ((t.setHolder i p).modSlot i fun sl => { sl with holdTimer := timer }).slot j =
      { s.slot j with holder := if t.lowerPaired i = true ∧ j = upperOf (pairOf i) then p else (s.slot j).holder } := by
    rw [State.slot_modSlot_ne _ _ hj, State.slot_setHolder, h.others j hj]
    simp only [hj, false_or]
  have hlower : t.lowerPaired i = s.lowerPaired i := by
    simp only [State.lowerPaired, State.isPaired, State.mode, h.modes]
  rw [hlower] at hother
  refine ⟨fun j hj => ?_, fun q hq => ?_⟩
  · rw [State.upperPaired_congr hmodes] at hj
    by_cases e : j = i
    · rw [e, hself]
      exact hi
    · rw [hother e, if_neg]
      · exact hs.slot j hj
      · rintro ⟨hl, rfl⟩
        obtain ⟨-, hmode⟩ := State.pair_of_lowerPaired hl
        rw [(s.upperPaired_upperOf _).mpr hmode] at hj
        cases hj
  · rw [hmodes] at hq
    have hne : upperOf q ≠ i := fun e => by
      rw [← e, (s.upperPaired_upperOf q).mpr hq] at hu
      cases hu
    have haside := hs.aside q hq
    rw [hother hne]
    by_cases e : lowerOf q = i
    · subst e
      rw [hself, pairOf_lowerOf, if_pos ⟨State.lowerPaired_lowerOf hq, rfl⟩]
      exact haside.withHolder p
    · have hnot : ¬ (s.lowerPaired i = true ∧ upperOf q = upperOf (pairOf i)) := by
        rintro ⟨hl, he⟩
        have hp : q = pairOf i := upperOf_injective he
        exact e (hp ▸ (State.pair_of_lowerPaired hl).1)
      rw [hother e, if_neg hnot, if_neg fun h => lowerOf_ne_upperOf _ _ h.2]
      exact haside

end

/-- The rail requests are no part of the invariant. -/
theorem State.Orderly.modRails {s : State} (h : s.Orderly) (q : Fin 4) (rails : Option Rails) :
    (s.modPair q fun p => { p with rails := rails }).Orderly := by
  have hmodes := (s.ownWork_modRails 0 q rails).modes
  refine ⟨fun i hi => h.slot i ?_, fun r hr => h.aside r ?_⟩
  · rw [← State.upperPaired_congr hmodes]
    exact hi
  · rw [← hmodes]
    exact hr

/-! ## The rail requests -/

/-- Where a pair keeps its requests, its lower slot stays in MANUAL. -/
theorem State.RailsOnlyInManual.keep {s t : State} (hs : s.RailsOnlyInManual)
    (h : ∀ q, (t.pair q).rails = none ∨ (t.pair q = s.pair q ∧
      ((s.slot (lowerOf q)).active.state = .manual → (t.slot (lowerOf q)).active.state = .manual))) :
    t.RailsOnlyInManual := by
  intro q hq
  rcases h q with hnone | ⟨hpair, hstate⟩
  · rw [hnone] at hq
    cases hq
  · rw [hpair] at hq ⊢
    obtain ⟨hdual, hmanual⟩ := hs q hq
    exact ⟨hdual, hstate hmanual⟩

theorem State.RailsOnlyInManual.of_states {s t : State} (hs : s.RailsOnlyInManual) (hpairs : ∀ q, t.pair q = s.pair q)
    (hstates : ∀ i, (t.slot i).active.state = (s.slot i).active.state) : t.RailsOnlyInManual :=
  hs.keep fun q => .inr ⟨hpairs q, fun h => (hstates _).trans h⟩

section
variable {s t : State} {i : Fin 8} (hs : s.RailsOnlyInManual) (h : State.SparesPairs i s t)
include hs h

/-- Work at a slot that is not in MANUAL. -/
theorem State.RailsOnlyInManual.of_unmanual (hi : (s.slot i).active.state ≠ .manual) : t.RailsOnlyInManual := by
  refine hs.keep fun q => .inr ⟨h.pairs q, fun hm => ?_⟩
  rw [h.others _ fun e => hi (e ▸ hm)]
  exact hm

/-- Work that ends with the slot's rail requests absent (R143). -/
theorem State.RailsOnlyInManual.clearRails : (t.clearRails i).RailsOnlyInManual := by
  refine hs.keep fun q => ?_
  rw [State.clearRails, State.pair_modPair]
  split
  · exact .inl rfl
  next hq =>
    refine .inr ⟨h.pairs q, fun hm => ?_⟩
    have hne : lowerOf q ≠ i := fun e => hq (by rw [← e, pairOf_lowerOf])
    rw [State.slot_modPair, h.others _ hne]
    exact hm

/-- A DRIVE asks for rails only of the lower slot of a DUAL pair, in MANUAL (R143). -/
theorem State.RailsOnlyInManual.feeds (hu : s.upperPaired i = false) (hmanual : (t.slot i).active.state = .manual)
    {rails : Option Rails} (hrails : rails.isSome = true → s.mode i = .dual) :
    (t.modPair (pairOf i) fun p => { p with rails := rails }).RailsOnlyInManual := by
  intro q hq
  rw [State.pair_modPair] at hq ⊢
  rw [State.slot_modPair]
  split at hq
  next e =>
    have hdual := hrails hq
    have hlower : lowerOf (pairOf i) = i :=
      eq_lowerOf_of_not_upper (by simpa [State.upperPaired, State.isPaired, hdual] using hu)
    rw [e, if_pos rfl, hlower, h.pairs]
    exact ⟨hdual, hmanual⟩
  next hne =>
    rw [h.pairs] at hq
    obtain ⟨hdual, hother⟩ := hs q hq
    have hne' : lowerOf q ≠ i := fun e => hne (by rw [← e, pairOf_lowerOf])
    rw [if_neg hne, h.pairs, h.others _ hne']
    exact ⟨hdual, hother⟩

end

/-! ## What a step keeps -/

/-- The invariant stands, and so do the rail requests in MANUAL alone. -/
structure State.Keeps (s t : State) : Prop where
  orderly : s.Orderly → t.Orderly
  rails : s.RailsOnlyInManual → t.RailsOnlyInManual

theorem State.Keeps.refl (s : State) : s.Keeps s := ⟨id, id⟩

theorem State.Keeps.trans {s u t : State} (h : s.Keeps u) (h' : u.Keeps t) : s.Keeps t :=
  ⟨h'.orderly ∘ h.orderly, h'.rails ∘ h.rails⟩

theorem State.Keeps.reply {s t : State} (h : s.Keeps t) (st : Status) : s.Keeps (t.reply st).1 := h

/-- Of what the invariant reads, nothing has changed but a binding given up. -/
structure Slot.Unmoved (sl sl' : Slot) : Prop where
  holder : sl'.holder = sl.holder
  parked : sl'.parked = sl.parked
  holdTimer : sl'.holdTimer.isSome = sl.holdTimer.isSome
  shape : sl.active.SameShape sl'.active
  unbound : sl.active.bound = none → sl'.active.bound = none

theorem Slot.Unmoved.refl (sl : Slot) : sl.Unmoved sl := ⟨rfl, rfl, rfl, .refl _, id⟩

theorem Slot.unmoved_of_active {sl sl' : Slot} (ha : sl'.active = sl.active) (hp : sl'.parked = sl.parked)
    (hh : sl'.holder = sl.holder) (ht : sl'.holdTimer = sl.holdTimer) : sl.Unmoved sl' :=
  ⟨hh, hp, by rw [ht], by rw [ha]; exact .refl _, by rw [ha]; exact id⟩

theorem Slot.Unmoved.stopped {sl sl' : Slot} (h : sl.Unmoved sl') (hstopped : sl.holdTimer = none) :
    sl'.holdTimer = none := by
  have htimer := h.holdTimer
  rw [hstopped] at htimer
  exact Option.isNone_iff_eq_none.mp (by simpa using htimer)

theorem Slot.Orderly.unmoved {sl sl' : Slot} (h : sl.Orderly) (hm : sl.Unmoved sl') : sl'.Orderly := by
  refine ⟨?_, fun hrack => ?_, ?_, ?_, hm.shape.shaped h.shaped⟩
  · rw [hm.holder, hm.parked, hm.holdTimer]
    exact h.bench
  · rw [hm.holder] at hrack
    exact hm.stopped (h.rack hrack)
  · unfold Slot.ParkedOnlyWhileHeld
    rw [hm.holder, hm.parked, hm.shape.state, hm.shape.next]
    exact h.parked
  · rw [hm.holder, hm.parked, hm.shape.next]
    exact h.restores

theorem State.keeps_of_unmoved {s t : State} (h : ∀ i, (s.slot i).Unmoved (t.slot i))
    (hpairs : ∀ q, t.pair q = s.pair q) : s.Keeps t := by
  refine ⟨fun hs => ⟨fun i hi => ?_, fun q hq => ?_⟩, fun hs => hs.of_states hpairs fun i => (h i).shape.state⟩
  · rw [State.upperPaired_congr fun q => congrArg Pair.mode (hpairs q)] at hi
    exact (hs.slot i hi).unmoved (h i)
  · rw [hpairs] at hq
    obtain ⟨hholder, hidle, hunbound, hunparked, hstopped, hshaped⟩ := hs.aside q hq
    have hy := h (upperOf q)
    exact ⟨by rw [hy.holder, hholder, (h (lowerOf q)).holder], hy.shape.state.trans hidle, hy.unbound hunbound,
      hy.parked.trans hunparked, hy.stopped hstopped, hy.shape.shaped hshaped⟩

/-- Neither slots nor pairs have changed. -/
theorem State.keeps_of_same {s t : State} (hslots : t.slots = s.slots) (hpairs : t.pairs = s.pairs) : s.Keeps t :=
  State.keeps_of_unmoved (fun i => by simp only [State.slot, hslots]; exact .refl _)
    fun q => by simp only [State.pair, hpairs]

theorem State.OnlyWires.keeps {s t : State} (h : s.OnlyWires t) : s.Keeps t := by
  rw [h]
  exact State.keeps_of_same rfl rfl

theorem State.keeps_modSlot {s : State} {i : Fin 8} {f : Slot → Slot} (h : (s.slot i).Unmoved (f (s.slot i))) :
    s.Keeps (s.modSlot i f) := by
  refine State.keeps_of_unmoved (fun j => ?_) fun _ => rfl
  rw [State.slot_modSlot]
  split
  next e => exact e ▸ h
  next => exact .refl _

theorem State.keeps_releaseBinding (s : State) (i : Fin 8) : s.Keeps (s.releaseBinding i) := by
  refine State.keeps_of_unmoved (fun j => ?_) fun q => by rw [State.releaseBinding_frame]; rfl
  rw [State.slot_releaseBinding]
  split
  next e =>
    subst e
    exact ⟨rfl, rfl, rfl, ⟨rfl, rfl, rfl, rfl⟩, fun _ => rfl⟩
  next => exact .refl _

section
variable {i : Fin 8} {s t : State} (h : State.Steers i s t)
include h

theorem State.Steers.orderly (hs : s.Orderly) (hu : s.upperPaired i = false)
    (hdrain : ¬ ((s.slot i).active.state = .drain ∧ (s.slot i).active.drainNext = some .restore)) : t.Orderly :=
  hs.at hu h.runs.sparesPairs.onlyAt h.slot.holder ((hs.slot i hu).steered h.slot hdrain)

/-- The engine's work at a slot that is neither in MANUAL nor draining to RESTORE. -/
theorem State.Steers.keeps (hu : s.Orderly → s.upperPaired i = false) (hmanual : (s.slot i).active.state ≠ .manual)
    (hdrain : ¬ ((s.slot i).active.state = .drain ∧ (s.slot i).active.drainNext = some .restore)) : s.Keeps t :=
  ⟨fun hs => h.orderly hs (hu hs) hdrain,
    fun hs => hs.of_unmanual h.runs.sparesPairs hmanual⟩

/-- The engine's work at a slot in a run or in FAULTED. -/
theorem State.Steers.keeps_of_state {st : SlotState} (hs : (s.slot i).active.state = st)
    (hst : st ≠ .idle ∧ st ≠ .manual ∧ st ≠ .drain) : s.Keeps t := by
  obtain ⟨hidle, hmanual, hdrain⟩ := hst
  rw [← hs] at hidle hmanual hdrain
  exact h.keeps (fun ho => ho.not_aside (.inl hidle)) hmanual fun e => hdrain e.1

/-- The engine's work at a slot that leaves a run or MANUAL, its rail requests becoming absent. -/
theorem State.Steers.keeps_clearRails {st : SlotState} (hs : (s.slot i).active.state = st)
    (hst : st ≠ .idle ∧ st ≠ .drain) : s.Keeps (t.clearRails i) := by
  obtain ⟨hidle, hdrain⟩ := hst
  rw [← hs] at hidle hdrain
  exact ⟨fun ho => (h.orderly ho (ho.not_aside (.inl hidle)) fun e => hdrain e.1).modRails _ _,
    fun hr => hr.clearRails h.runs.sparesPairs⟩

end

end Sys2Proof.Machine
end

section
/-!
SUPPORT. What moves bindings, parked contexts and holders keeps the invariant and the rail requests (`State.Keeps`): restores, holds
taken and given back, pairs, resets.
-/

namespace Sys2Proof.Machine

/-! ## Restoring -/

theorem State.sparesPairs_restore (s : State) (i : Fin 8) : State.SparesPairs i s (s.restore i) := by
  unfold State.restore
  dsimp only
  refine (s.sparesPairs_releaseBinding i).trans ?_
  split
  · exact State.sparesPairs_modSlot ..
  · exact (State.sparesPairs_modSlot ..).trans (State.runsAt_settleRestored ..).sparesPairs

/-- A restore leaves the hold timer, and a context that is shaped anew. -/
theorem State.restore_settled (s : State) (i : Fin 8) :
    ((s.restore i).slot i).holdTimer = (s.slot i).holdTimer ∧ ((s.restore i).slot i).active.Settled := by
  have hreleased : ((s.releaseBinding i).slot i).holdTimer = (s.slot i).holdTimer := by
    rw [State.slot_releaseBinding, if_pos rfl]
  unfold State.restore
  dsimp only
  split
  · rw [State.slot_modSlot_self]
    exact ⟨hreleased, Context.settled_reset⟩
  next c _ =>
    obtain ⟨hsteered, hsettled⟩ := State.settleRestored_settled
      ((s.releaseBinding i).modSlot i fun sl => { sl with active := c, parked := none }) i
    refine ⟨?_, hsettled⟩
    rw [hsteered.holdTimer, State.slot_modSlot_self]
    exact hreleased

/-- What drains to RESTORE is a rack-held slot, which then parks nothing (R155, R156). -/
theorem State.keeps_drainCompletion (s : State) (i : Fin 8) : s.Keeps (s.drainCompletion i) := by
  unfold State.drainCompletion
  split
  next hs =>
    have haside (ho : s.Orderly) : s.upperPaired i = false := ho.not_aside (.inl (by rw [hs]; decide))
    have hmanual : (s.slot i).active.state ≠ .manual := by rw [hs]; decide
    have hends {x : Option DrainNext} (hx : (s.slot i).active.drainNext = x) (hne : x ≠ some .restore) {st : SlotState}
        (hst : st.timed = false) : s.Keeps (s.modSlot i fun sl => sl.enter st none) :=
      (s.steers_rest i hst).keeps haside hmanual fun e => hne (hx ▸ e.2)
    split
    next hx => exact hends hx (by decide) rfl
    next hx =>
      refine ⟨fun ho => ?_, fun hr => hr.of_unmanual (s.sparesPairs_restore i) hmanual⟩
      obtain ⟨hparked, hholder⟩ := s.restore_kept i
      obtain ⟨htimer, hsettled⟩ := s.restore_settled i
      have hslot := ho.slot i (haside ho)
      obtain ⟨hrack, -⟩ := hslot.restores hx
      exact ho.at (haside ho) (s.sparesPairs_restore i).onlyAt hholder
        (Slot.orderly_of_unparked (hholder.trans hrack) (htimer.trans (hslot.rack hrack)) hparked hsettled)
    next hx => exact hends hx (by decide) rfl
    next hx => exact hends hx (by decide) rfl
  next => exact .refl s

/-! ## Holds -/

theorem State.keeps_restartHold (s : State) (p : Party) (i : Fin 8) : s.Keeps (s.restartHold p i) := by
  have hsame := s.sameContexts_restartHold p i
  have hpairs (q : Fin 4) : (s.restartHold p i).pair q = s.pair q := by rw [s.restartHold_frame p i]; rfl
  refine ⟨fun ho => ?_, fun hr => hr.of_states hpairs fun j => by rw [hsame.active]⟩
  unfold State.restartHold
  split
  next h =>
    obtain ⟨hbench, -, hparked, hrestores, hshaped⟩ := ho.slot _ (s.upperPaired_governor i)
    refine ho.at (s.upperPaired_governor i) (State.sparesPairs_modSlot ..).onlyAt ?_ ?_ <;> rw [State.slot_modSlot_self]
    exact ⟨fun hb => ⟨(hbench hb).1, rfl⟩, fun e => absurd (e.symm.trans h.2) nofun, hparked, hrestores, hshaped⟩
  next => exact ho

/-- A slot that changes hands keeps its context's state. -/
theorem State.RailsOnlyInManual.setHold {s : State} (h : s.RailsOnlyInManual) (i : Fin 8) (p : Party)
    (timer : Option Nat) :
    ((s.setHolder i p).modSlot i fun sl => { sl with holdTimer := timer }).RailsOnlyInManual := by
  have hsame : s.SameContexts ((s.setHolder i p).modSlot i fun sl => { sl with holdTimer := timer }) :=
    (s.sameContexts_setHolder i p).trans (State.sameContexts_modSlot rfl rfl)
  refine h.of_states (fun q => ?_) fun j => by rw [hsame.active]
  rw [State.setHolder_frame]
  rfl

/-- A TAKE parks the rack's context, gives the bench a fresh one and starts the hold timer (R147 to R149). -/
theorem State.keeps_takeSlot {s : State} {i : Fin 8} (hu : s.upperPaired i = false) : s.Keeps (s.takeSlot i) := by
  have hgiven {u : State} (h : State.Steers i s u) (timer : Nat) :
      s.Keeps ((((u.modSlot i fun sl => sl.handOver (u.activeRecord i)).clearRails i).setHolder i .bench).modSlot i
        fun sl => { sl with holdTimer := some timer }) := by
    have hover : State.SparesPairs i s (u.modSlot i fun sl => sl.handOver (u.activeRecord i)) :=
      h.runs.sparesPairs.trans (State.sparesPairs_modSlot ..)
    refine ⟨fun ho => ho.setHold hu hover.clearRails ?_, fun hr => (hr.clearRails hover).setHold i _ _⟩
    have hfresh := (h.slot.shaped (ho.slot i hu).shaped).freshContext (u.activeRecord i)
    rw [State.slot_clearRails, State.slot_modSlot_self]
    exact ⟨fun _ => ⟨rfl, rfl⟩, nofun, fun _ => .inl rfl, fun e => absurd e hfresh.next, hfresh.shaped⟩
  unfold State.takeSlot
  dsimp only
  split
  · exact hgiven (s.steers_abandonOnPhase i _) _
  · exact hgiven (.refl i s) _

theorem keeps_cmdTake (p : Party) (target arg : Nibble) (s : State) : s.Keeps (cmdTake p target arg s).1 := by
  unfold cmdTake
  split
  · exact .refl s
  split
  · exact .refl s
  split
  · exact .refl s
  split
  · exact .refl s
  next hu =>
    split
    · exact s.keeps_restartHold p _
    split
    · exact State.keeps_takeSlot (Bool.eq_false_iff.mpr hu)
    · exact .refl s

/-- The bench's context at slot `i` ended: the slot is in order as the rack's, its timer stopped, where it parked the rack's
context (R154, R155). -/
structure State.HandsBack (i : Fin 8) (s t : State) : Prop where
  onlyAt : State.OnlyAt i s t
  rails : s.RailsOnlyInManual → t.RailsOnlyInManual
  slot : (s.slot i).parked.isSome = true → (s.slot i).active.Shaped →
    ({ t.slot i with holder := .rack, holdTimer := none } : Slot).Orderly

theorem State.sparesPairs_drainToRestore (s : State) (i : Fin 8) (timer : Option Timer) :
    State.SparesPairs i s (s.drainToRestore i timer) :=
  (s.sparesPairs_releaseBinding i).trans (State.sparesPairs_modSlot ..)

/-- A drain to RESTORE, on a timer that runs, of a slot that parks a context. -/
theorem State.drainToRestore_orderly {s : State} {i : Fin 8} {timer : Option Timer}
    (hparked : (s.slot i).parked.isSome = true) (htimer : timer.isSome = true) :
    ({ (s.drainToRestore i timer).slot i with holder := .rack, holdTimer := none } : Slot).Orderly := by
  rw [State.drainToRestore, State.slot_modSlot_self, State.slot_releaseBinding, if_pos rfl]
  exact ⟨nofun, fun _ => rfl, fun _ => .inr ⟨rfl, rfl⟩, fun _ => ⟨rfl, hparked⟩, ⟨htimer, rfl, rfl⟩⟩

theorem State.handsBack_endBenchContext (s : State) (i : Fin 8) : State.HandsBack i s (s.endBenchContext i) := by
  have hrestored (hs : (s.slot i).active.state ≠ .manual) : State.HandsBack i s (s.restore i) :=
    ⟨(s.sparesPairs_restore i).onlyAt, fun hr => hr.of_unmanual (s.sparesPairs_restore i) hs,
      fun _ _ => Slot.orderly_of_unparked rfl rfl (s.restore_kept i).1 (s.restore_settled i).2⟩
  have hdrained {u : State} (h : State.Steers i s u) (hs : (s.slot i).active.state ≠ .manual) {timer : Option Timer}
      (ht : (s.slot i).active.Shaped → timer.isSome = true) : State.HandsBack i s (u.drainToRestore i timer) :=
    have hspares := h.runs.sparesPairs.trans (u.sparesPairs_drainToRestore i timer)
    ⟨hspares.onlyAt, fun hr => hr.of_unmanual hspares hs,
      fun hparked hshaped => State.drainToRestore_orderly (by rw [h.slot.parked]; exact hparked) (ht hshaped)⟩
  unfold State.endBenchContext
  dsimp only
  split
  next hs => exact hdrained (s.steers_abandonOnPhase i .abort) (by rw [hs]; decide) fun _ => rfl
  next =>
    have hspares := s.sparesPairs_drainToRestore i (some (Timer.start (s.activeRecord i).drainTime))
    exact ⟨hspares.clearRails, fun hr => hr.clearRails hspares,
      fun hparked _ => State.drainToRestore_orderly hparked rfl⟩
  next hs => exact hdrained (.refl i s) (by rw [hs]; decide) fun hshaped => hshaped.timer_isSome hs rfl
  next hs => exact hdrained (.refl i s) (by rw [hs]; decide) fun hshaped => hshaped.timer_isSome hs rfl
  next hs => exact hrestored (by rw [hs]; decide)
  next hs => exact hrestored (by rw [hs]; decide)
  next hs => exact hrestored (by rw [hs]; decide)
  next hs => exact hrestored (by rw [hs]; decide)

/-- A bench hold ends only where there is one (R152, R153). -/
theorem State.keeps_endBenchHold {s : State} {i : Fin 8} (hu : s.Orderly → s.upperPaired i = false)
    (hbench : (s.slot i).holder = .bench) : s.Keeps (s.endBenchHold i) := by
  have hback := s.handsBack_endBenchContext i
  refine ⟨fun ho => ho.setHold (hu ho) hback.onlyAt ?_, fun hr => (hback.rails hr).setHold i _ _⟩
  have hslot := ho.slot i (hu ho)
  exact hback.slot (hslot.bench hbench).1 hslot.shaped

theorem State.keeps_holdExpiry (s : State) (i : Fin 8) : s.Keeps (s.holdExpiry i) := by
  unfold State.holdExpiry
  split
  next h =>
    obtain ⟨hbench, htimer⟩ := h
    exact (State.keeps_endBenchHold (fun ho => ho.not_aside (.inr htimer)) hbench).trans
      (State.keeps_modSlot (Slot.unmoved_of_active rfl rfl rfl rfl))
  next => exact .refl s

theorem keeps_cmdRelease (p : Party) (target arg : Nibble) (s : State) : s.Keeps (cmdRelease p target arg s).1 := by
  unfold cmdRelease
  split
  · exact .refl s
  split
  · exact .refl s
  split
  · exact .refl s
  next hu =>
    split
    · exact .refl s
    next hbench =>
      exact (State.keeps_endBenchHold (fun _ => Bool.eq_false_iff.mpr hu) (not_not.mp hbench)).reply _

/-! ## Pairs -/

section
variable {s : State} {pr : Fin 4} (mode : PairMode)

/-- The slots that a PAIR leaves standing aside stood aside before, but for its own upper slot. -/
theorem State.upperPaired_of_setPair {i : Fin 8} (hi : i ≠ upperOf pr) (h : (s.setPair pr mode).upperPaired i = false) :
    s.upperPaired i = false := by
  refine (s.orderly_or_upper i).resolve_right ?_
  rintro ⟨q, rfl, hq⟩
  have hne : q ≠ pr := fun e => hi (e ▸ rfl)
  have hmode : ((s.setPair pr mode).pair q).mode ≠ .separate := by
    rw [State.mode_setPair, if_neg hne]
    exact hq
  rw [(State.upperPaired_upperOf _ q).mpr hmode] at h
  cases h

/-- A PAIR finds both slots of its pair at rest, with nothing parked and one holder: the rack, since the bench holds a slot
with a context parked (R134, R148). -/
theorem State.keeps_setPair (hlower : (s.slot (lowerOf pr)).pairable = true)
    (hupper : (s.slot (upperOf pr)).pairable = true)
    (hholder : (s.slot (upperOf pr)).holder = (s.slot (lowerOf pr)).holder) : s.Keeps (s.setPair pr mode) := by
  have hidle := Slot.pairable_idle hupper
  have hnone := Slot.pairable_unparked hupper
  refine ⟨fun ho => ?_, fun hr => hr.keep fun q => ?_⟩
  · have hlow : (s.slot (lowerOf pr)).Orderly := ho.slot _ (by simp [State.upperPaired])
    have hrack : (s.slot (lowerOf pr)).holder = .rack := by
      cases h : (s.slot (lowerOf pr)).holder with
      | rack => rfl
      | bench =>
        have hparked := (hlow.bench h).1
        rw [Slot.pairable_unparked hlower] at hparked
        cases hparked
    have hstopped : (s.slot (upperOf pr)).holdTimer = none := by
      rcases s.orderly_or_upper (upperOf pr) with hu | ⟨q, e, hq⟩
      · exact (ho.slot _ hu).rack (hholder.trans hrack)
      · exact e ▸ (ho.aside q hq).stopped
    have hshaped := ho.shaped (upperOf pr)
    refine ⟨fun i hi => ?_, fun q hq => ?_⟩
    · by_cases e : i = upperOf pr
      · subst e
        have hseparate : mode = .separate := by
          by_contra hm
          rw [(State.upperPaired_upperOf _ pr).mpr (by rw [State.mode_setPair, if_pos rfl]; exact hm)] at hi
          cases hi
        rw [State.slot_setPair_upper, if_pos hseparate]
        exact Slot.orderly_of_unparked (hholder.trans hrack) hstopped hnone
          (Context.Shaped.settled hshaped (by simp [Slot.unbound, hidle]))
      · rw [State.slot_setPair_ne _ _ _ e]
        exact ho.slot i (State.upperPaired_of_setPair mode e hi)
    · rw [State.mode_setPair] at hq
      split at hq
      next e =>
        subst e
        obtain ⟨hsame, hidle', hunbound, hunparked, hstopped', -⟩ := State.slot_setPair_aside hq hidle hnone
        refine ⟨hsame, hidle', hunbound, hunparked, hstopped', ?_⟩
        rw [State.slot_setPair_upper, if_neg hq]
        exact hshaped
      next hne =>
        rw [State.slot_setPair_ne _ _ _ (upperOf_injective.ne hne), State.slot_setPair_ne _ _ _ (lowerOf_ne_upperOf _ _)]
        exact ho.aside q hq
  · rw [State.pair_setPair]
    split
    · exact .inl rfl
    · exact .inr ⟨rfl, fun h => by rw [State.slot_setPair_ne _ _ _ (lowerOf_ne_upperOf _ _)]; exact h⟩

end

theorem keeps_cmdPair (p : Party) (target arg : Nibble) (s : State) : s.Keeps (cmdPair p target arg s).1 := by
  unfold cmdPair
  split
  next pr mode _ _ =>
    dsimp only
    split
    · exact .refl s
    next hheld =>
      obtain ⟨hx, hy⟩ := not_or.mp hheld
      split
      next h =>
        rw [Bool.and_eq_true] at h
        refine (s.keeps_restartHold ..).trans (State.keeps_setPair mode h.1 h.2 ?_)
        rw [State.slot_restartHold, State.slot_restartHold]
        exact (not_not.mp hy).trans (not_not.mp hx).symm
      next => exact s.keeps_restartHold ..
  next => exact .refl s

/-! ## Resets and time -/

/-- After a reset every slot is the rack's, at rest, and no pair is paired (R1, R133). -/
theorem State.keeps_resetAll (s : State) (cause : ResetCause) : s.Keeps (s.resetAll cause) := by
  refine ⟨fun _ => ⟨fun i _ => ?_, fun q hq => ?_⟩, fun hr => hr.keep fun q => .inl ?_⟩
  · rw [State.slot_resetAll]
    exact Slot.orderly_of_unparked rfl rfl rfl Context.settled_reset
  · rw [State.pair_resetAll] at hq
    exact absurd rfl hq
  · rw [State.pair_resetAll]
    rfl

theorem State.keeps_tick (s : State) : s.Keeps s.tick := by
  refine State.keeps_of_unmoved (fun i => ?_) fun q => by unfold State.tick; split <;> rfl
  rw [State.slot_tick]
  split
  · exact .refl _
  · exact ⟨rfl, rfl, Option.isSome_map .., ⟨rfl, rfl, Option.isSome_map .., rfl⟩, id⟩

end Sys2Proof.Machine
end

section
/-!
PROOFS. Bench holds and the shapes of contexts are kept (O8), and rail requests stand in MANUAL alone (O14): no command, event or
passing of time breaks either (`State.Keeps`).
-/

namespace Sys2Proof.Machine

/-! ## The slot engine and samples -/

theorem State.keeps_pauseSlot (s : State) (i : Fin 8) : s.Keeps (s.pauseSlot i) := by
  have hpaused {u : State} : State.Steers i u (u.modSlot i fun sl => sl.enter .paused none) :=
    u.steers_rest i rfl
  unfold State.pauseSlot
  split
  next h => exact ((s.steers_abandonOnPhase i _).trans hpaused).keeps_of_state h (by decide)
  next h => exact hpaused.keeps_of_state h (by decide)
  next h => exact hpaused.keeps_of_state h (by decide)
  next h => exact (s.steers_rest i rfl).keeps_clearRails h (by decide)
  all_goals exact .refl s

theorem State.keeps_resumeSlot (s : State) (i : Fin 8) : s.Keeps (s.resumeSlot i) := by
  rw [State.resumeSlot_eq]
  split
  next h => exact (s.steers_resumeRun i false).keeps_of_state h (by decide)
  next => exact .refl s

theorem State.keeps_onTimeExpiry (s : State) (i : Fin 8) : s.Keeps (s.onTimeExpiry i) := by
  by_cases h : (s.slot i).active.state = .runOn
  · exact (s.steers_onTimeExpiry i).keeps_of_state h (by decide)
  · rw [State.onTimeExpiry, if_neg h]
    exact .refl s

theorem State.keeps_bleedExpiry (s : State) (i : Fin 8) : s.Keeps (s.bleedExpiry i) := by
  rw [State.bleedExpiry_eq]
  split
  next h => exact (s.steers_resumeRun i false).keeps_of_state h (by decide)
  next => exact .refl s

theorem State.keeps_restExpiry (s : State) (i : Fin 8) : s.Keeps (s.restExpiry i) := by
  unfold State.restExpiry
  split
  next h => exact (s.steers_beginOnPhase i).keeps_of_state h (by decide)
  next => exact .refl s

theorem State.keeps_endOfLead (s : State) (i : Fin 8) : s.Keeps (s.endOfLead i) := by
  by_cases h : (s.slot i).active.state = .runOn ∧ (s.slot i).active.subPhase = some .lead
  · exact (s.steers_endOfLead i).keeps_of_state h.1 (by decide)
  · rw [State.endOfLead, if_neg h]
    exact .refl s

/-- A fed slot that trips drains, its rail requests absent; in MANUAL a sample that does not is counted, in RUN-ON it may end the
on-phase (R23). -/
theorem State.keeps_sampleAtSlot (s : State) (i : Fin 8) : s.Keeps (s.sampleAtSlot i) := by
  by_cases hs : (s.slot i).active.state = .runOn ∨ (s.slot i).active.state = .manual
  · have hcount : State.Steers i s (s.countTrips (s.tripChecks i)) :=
      (s.runsAt_countTrips i _).steers (s.slot_countTrips _ i)
    have hcounted : s.Keeps (s.countTrips (s.tripChecks i)) :=
      State.keeps_of_unmoved (fun j => by rw [State.slot_countTrips]; exact .refl _) hcount.runs.pair
    have hslot := s.slot_countTrips (s.tripChecks i) i
    rw [State.sampleAtSlot_of_fed hs]
    dsimp only
    generalize s.countTrips (s.tripChecks i) = u at hcounted hslot
    refine hcounted.trans ?_
    rw [← hslot] at hs ⊢
    split
    next t _ =>
      obtain ⟨v, hv, e⟩ := u.trip_steers i t
      rw [e]
      exact hv.keeps_clearRails rfl (by rcases hs with h | h <;> rw [h] <;> decide)
    split
    · exact State.keeps_modSlot ⟨rfl, rfl, rfl, ⟨rfl, rfl, rfl, rfl⟩, id⟩
    next hmanual =>
      have hrun := hs.resolve_right hmanual
      split
      · exact .refl u
      · exact (State.steers_countedSample hrun).keeps_of_state hrun (by decide)
  · rw [State.sampleAtSlot_of_unfed (fun e => hs (.inl e)) fun e => hs (.inr e)]
    exact .refl s

theorem State.keeps_modChannel (s : State) (c : Fin 8) (f : Channel → Channel) : s.Keeps (s.modChannel c f) :=
  State.keeps_of_same rfl rfl

theorem State.keeps_sampleArrival (s : State) (ch : Fin 8) (code : SenseCode) : s.Keeps (s.sampleArrival ch code) := by
  unfold State.sampleArrival
  split
  · exact .refl s
  · exact (s.keeps_modChannel ..).trans (State.keeps_sampleAtSlot ..)

theorem State.keeps_pairSample (s : State) (pr : Fin 4) (x y : SenseCode) : s.Keeps (s.pairSample pr x y) := by
  unfold State.pairSample
  split
  · exact ((s.keeps_modChannel ..).trans (State.keeps_modChannel ..)).trans (State.keeps_sampleAtSlot ..)
  · exact .refl s

/-! ## Acceptance -/

/-- A command acts at its slot once the hold timer has been restarted; the slot does not stand aside. -/
theorem State.keeps_onHeldSlot_at {s : State} {p : Party} {target : Nibble} {act : Fin 8 → State → State × Reply}
    (h : ∀ i, slotOf target = some i → (s.restartHold p i).upperPaired i = false →
      (s.restartHold p i).Keeps (act i (s.restartHold p i)).1) : s.Keeps (s.onHeldSlot p target act).1 := by
  rcases s.onHeldSlot_cases p target act with ⟨-, e⟩ | ⟨i, hi, ⟨-, e⟩ | ⟨-, -, e⟩ | ⟨hu, -, e⟩⟩ <;> rw [e]
  · exact .refl s
  · exact .refl s
  · exact .refl s
  · refine (s.keeps_restartHold p i).trans (h i hi ?_)
    rw [s.restartHold_frame p i]
    exact hu

theorem State.keeps_onHeldSlot {act : Fin 8 → State → State × Reply}
    (h : ∀ (i : Fin 8) (u : State), u.upperPaired i = false → u.Keeps (act i u).1) (s : State) (p : Party)
    (target : Nibble) : s.Keeps (s.onHeldSlot p target act).1 :=
  State.keeps_onHeldSlot_at fun i _ hu => h i _ hu

theorem State.keeps_onAnySlot (s : State) (p : Party) (target : Nibble) (report : Fin 8 → State → Reply) :
    s.Keeps (s.onAnySlot p target report).1 := by
  unfold State.onAnySlot
  split
  · exact .refl s
  · exact s.keeps_restartHold p _

theorem State.keeps_partWide {act : State → State × Reply} (h : ∀ u : State, u.Keeps (act u).1) (s : State)
    (p : Party) : s.Keeps (s.partWide p act).1 := by
  rcases s.partWide_cases p act with ⟨-, e⟩ | ⟨-, -, e⟩ | ⟨-, -, -, e⟩ <;> rw [e]
  · exact .refl s
  · exact .refl s
  · exact h s

/-! ## The slot commands -/

/-- The engine's work for a command at a slot in IDLE or FAULTED. -/
theorem State.Steers.keeps_of_rest {i : Fin 8} {s t : State} (h : State.Steers i s t) (hu : s.upperPaired i = false)
    (hs : (s.slot i).active.state = .idle ∨ (s.slot i).active.state = .faulted) : s.Keeps t := by
  have hrest : (s.slot i).active.state ≠ .manual ∧ (s.slot i).active.state ≠ .drain := by
    rcases hs with e | e <;> rw [e] <;> decide
  exact h.keeps (fun _ => hu) hrest.1 fun e => hrest.2 e.1

theorem State.keeps_bindTo {s : State} {i : Fin 8} (hu : s.upperPaired i = false)
    (hs : (s.slot i).active.state = .idle) (p : Fin 16) : s.Keeps (s.bindTo i p) := by
  have hreleased : ((s.releaseBinding i).slot i).active.state = .idle := by
    rw [State.slot_releaseBinding, if_pos rfl]
    exact hs
  have hu' : (s.releaseBinding i).upperPaired i = false := by
    rw [State.releaseBinding_frame]
    exact hu
  unfold State.bindTo
  split
  · exact .refl s
  · refine (s.keeps_releaseBinding i).trans ?_
    refine State.Keeps.trans (u := (s.releaseBinding i).modProfile p fun pr => { pr with useCount := pr.useCount + 1 })
      (State.keeps_of_same rfl rfl) (State.Steers.keeps_of_rest (State.steers_modSlot ?_) hu' (.inl hreleased))
    exact Slot.steered_of_sameShape rfl rfl rfl ⟨rfl, rfl, rfl, rfl⟩

theorem keeps_cmdBind (p : Party) (target arg : Nibble) (s : State) : s.Keeps (cmdBind p target arg s).1 := by
  refine State.keeps_onHeldSlot (fun i u hu => ?_) s p target
  split
  · exact .refl u
  split
  · exact .refl u
  next hs _ => exact (State.keeps_bindTo hu (not_not.mp hs) _).reply _

theorem keeps_cmdUnbind (p : Party) (target arg : Nibble) (s : State) : s.Keeps (cmdUnbind p target arg s).1 := by
  refine State.keeps_onHeldSlot (fun i u _ => ?_) s p target
  split
  · exact (u.keeps_releaseBinding i).reply _
  · exact (u.keeps_releaseBinding i).reply _
  · exact .refl u

theorem keeps_cmdStart (p : Party) (target arg : Nibble) (s : State) : s.Keeps (cmdStart p target arg s).1 := by
  refine State.keeps_onHeldSlot (fun i u hu => ?_) s p target
  dsimp only
  split
  · exact .refl u
  split
  · exact .refl u
  split
  · exact .refl u
  split
  · exact .refl u
  next hs _ _ =>
    have hbegun : State.Steers i u (u.modSlot i fun sl => { sl with active := sl.active.beginRun }) :=
      State.steers_modSlot (Slot.steered_of_sameShape rfl rfl rfl ⟨rfl, rfl, rfl, rfl⟩)
    exact (hbegun.trans (State.steers_beginOnPhase _ i)).keeps_of_rest hu (.inl (not_not.mp hs))

theorem keeps_cmdStop (p : Party) (target arg : Nibble) (s : State) : s.Keeps (cmdStop p target arg s).1 := by
  have hidled (i : Fin 8) (u : State) : State.Steers i u (u.modSlot i fun sl => sl.enter .idle none) :=
    u.steers_rest i rfl
  refine State.keeps_onHeldSlot (fun i u _ => ?_) s p target
  split
  next h =>
    exact ((u.steers_abandonOnPhase i _).trans (State.steers_enterDrain _ i (by decide))).keeps_of_state h (by decide)
  next h => exact (State.steers_continueDrain h (by decide)).keeps_of_state h (by decide)
  next h => exact (hidled i u).keeps_of_state h (by decide)
  next h => exact (hidled i u).keeps_of_state h (by decide)
  next h => exact (u.steers_enterDrain i (by decide)).keeps_clearRails h (by decide)
  all_goals exact .refl u

theorem keeps_cmdAck (p : Party) (target arg : Nibble) (s : State) : s.Keeps (cmdAck p target arg s).1 := by
  refine State.keeps_onHeldSlot (fun i u _ => ?_) s p target
  split
  next h =>
    split
    · exact .refl u
    · exact (u.steers_rest i rfl).keeps_of_state h (by decide)
  all_goals exact .refl u

/-- An operand asks for rails of a DUAL pair alone (12.5). -/
theorem driveForm_rails {mode : PairMode} {op : Word} {rails : Option Rails}
    (h : driveForm mode op = some (.feed rails)) (hrails : rails.isSome = true) : mode = .dual := by
  obtain ⟨r, rfl⟩ := Option.isSome_iff_exists.mp hrails
  cases mode with
  | dual => rfl
  | separate | gang =>
    unfold driveForm at h
    split at h <;> simp_all

theorem State.steers_enterManual (s : State) (i : Fin 8) :
    State.Steers i s ((s.modSlot i Slot.enterManual).clearTrips i) := by
  refine State.Steers.trans (State.steers_modSlot ?_) (State.steers_clearTrips ..)
  exact Slot.steered_of_settled rfl rfl rfl ⟨⟨rfl, rfl, rfl⟩, nofun⟩

theorem keeps_driveSlot {form : DriveForm} {i : Fin 8} {s : State} (hu : s.upperPaired i = false)
    (hform : ∀ rails, form = .feed rails → rails.isSome = true → s.mode i = .dual) :
    s.Keeps (driveSlot form i s).1 := by
  unfold driveSlot
  split
  next h =>
    split
    · exact .refl s
    split
    · exact .refl s
    · have hfed := s.steers_enterManual i
      have hmanual : (((s.modSlot i Slot.enterManual).clearTrips i).slot i).active.state = .manual := by
        rw [State.slot_clearTrips, State.slot_modSlot_self]
        rfl
      exact ⟨fun ho => ((hfed.keeps_of_rest hu (.inl h)).orderly ho).modRails _ _,
        fun hr => hr.feeds hfed.runs.sparesPairs hu hmanual (hform _ rfl)⟩
  next h => exact ((s.steers_enterDrain i (by decide)).keeps_of_rest hu (.inl h)).reply _
  next => exact .refl s
  next h => exact ⟨fun ho => ho.modRails _ _, fun hr => hr.feeds (.refl i s) hu h (hform _ rfl)⟩
  next h => exact (s.steers_enterDrain i (by decide)).keeps_clearRails h (by decide)
  next h => exact (s.steers_rest i rfl).keeps_clearRails h (by decide)
  next => exact .refl s

theorem keeps_cmdDrive (p : Party) (target arg : Nibble) (op : Word) (s : State) :
    s.Keeps (cmdDrive p target arg op s).1 := by
  unfold cmdDrive
  split
  · exact .refl s
  next i htarget =>
    split
    · exact .refl s
    split
    · exact .refl s
    next hform =>
      refine State.keeps_onHeldSlot_at fun j hj hu => keeps_driveSlot hu fun rails e hrails => ?_
      obtain rfl : i = j := Option.some.inj (htarget.symm.trans hj)
      subst e
      rw [s.restartHold_frame p i]
      exact driveForm_rails hform hrails

theorem keeps_cmdSetConv (p : Party) (target arg : Nibble) (op : Word) (s : State) :
    s.Keeps (cmdSetConv p target arg op s).1 := by
  refine State.keeps_onHeldSlot (fun i u _ => State.Keeps.reply (State.keeps_modSlot ?_) _) s p target
  exact ⟨rfl, rfl, rfl, ⟨rfl, rfl, rfl, rfl⟩, id⟩

theorem keeps_cmdSlotInit (p : Party) (target arg : Nibble) (s : State) : s.Keeps (cmdSlotInit p target arg s).1 := by
  have hinit {i : Fin 8} {u : State} (hu : u.upperPaired i = false)
      (hs : (u.slot i).active.state = .idle ∨ (u.slot i).active.state = .faulted) :
      u.Keeps ((u.releaseBinding i).modSlot i Slot.initialise) := by
    refine (u.keeps_releaseBinding i).trans (State.Steers.keeps_of_rest (i := i) (State.steers_modSlot ?_) ?_ ?_)
    · exact Slot.steered_of_settled rfl rfl rfl Context.settled_reset
    · rw [State.releaseBinding_frame]
      exact hu
    · rw [State.slot_releaseBinding, if_pos rfl]
      exact hs
  refine State.keeps_onHeldSlot (fun i u hu => ?_) s p target
  split
  next h => exact hinit hu (.inl h)
  next h => exact hinit hu (.inr h)
  next => exact .refl u

theorem keeps_cmdSummaryRead (p : Party) (target arg : Nibble) (s : State) :
    s.Keeps (cmdSummaryRead p target arg s).1 := by
  unfold cmdSummaryRead
  split
  · exact .refl s
  · exact s.keeps_onAnySlot ..

/-! ## Stacks, faults, profiles and the part-wide commands -/

theorem keeps_cmdHoldTime (p : Party) (target arg : Nibble) (op : Word) (s : State) :
    s.Keeps (cmdHoldTime p target arg op s).1 := by
  unfold cmdHoldTime
  repeat' split
  · exact .refl s
  · exact .refl s
  all_goals exact State.keeps_of_same rfl rfl

theorem keeps_cmdEvPeek (p : Party) (target arg : Nibble) (s : State) : s.Keeps (cmdEvPeek p target arg s).1 := by
  unfold cmdEvPeek
  split
  · exact .refl s
  · exact s.keeps_onAnySlot ..

theorem State.keeps_onStack {remove : Slot → Slot × Status} (h : ∀ sl : Slot, sl.Unmoved (remove sl).1) (s : State)
    (p : Party) (target : Nibble) : s.Keeps (s.onStack p target remove).1 := by
  refine State.keeps_onHeldSlot (fun i u _ => ?_) s p target
  split
  · exact .refl u
  · exact (State.keeps_modSlot (h _)).reply _

theorem keeps_cmdEvFree (p : Party) (target arg : Nibble) (s : State) : s.Keeps (cmdEvFree p target arg s).1 := by
  unfold cmdEvFree
  split
  · exact .refl s
  · exact State.keeps_onStack (fun _ => Slot.unmoved_of_active rfl rfl rfl rfl) s p target

theorem Slot.unmoved_readFaults (sl : Slot) (p : Party) (mask : BitVec 7) (clears : Bool) :
    sl.Unmoved (sl.readFaults p mask clears) := by
  obtain ⟨hactive, hparked⟩ := sl.readFaults_kept p mask clears
  refine Slot.unmoved_of_active hactive hparked (sl.alike_readFaults p mask clears).holder ?_
  unfold Slot.readFaults Slot.releaseWithheld
  dsimp only
  repeat' split
  all_goals simp

theorem keeps_cmdFaultRead (p : Party) (target arg : Nibble) (op : Word) (s : State) :
    s.Keeps (cmdFaultRead p target arg op s).1 := by
  unfold cmdFaultRead
  split
  · exact State.keeps_of_same rfl rfl
  split
  · exact .refl s
  · dsimp only
    exact (s.keeps_restartHold p _).trans (State.keeps_modSlot (Slot.unmoved_readFaults ..))

theorem keeps_cmdAlertMask (p : Party) (target arg : Nibble) (op : Word) (s : State) :
    s.Keeps (cmdAlertMask p target arg op s).1 := by
  unfold cmdAlertMask
  split
  · exact .refl s
  · rw [s.setMask_frame p]
    exact State.keeps_of_same rfl rfl

theorem keeps_cmdProfileWrite (p : Party) (target arg : Nibble) (ops : List Word) (s : State) :
    s.Keeps (cmdProfileWrite p target arg ops s).1 := by
  unfold cmdProfileWrite
  dsimp only
  repeat' split
  iterate 3 exact .refl s
  all_goals exact State.keeps_of_same rfl rfl

theorem keeps_cmdPartStatus (p : Party) (target arg : Nibble) (s : State) :
    s.Keeps (cmdPartStatus p target arg s).1 := by
  unfold cmdPartStatus
  split <;> exact .refl s

theorem keeps_cmdSetSampling (p : Party) (target arg : Nibble) (op : Word) (s : State) :
    s.Keeps (cmdSetSampling p target arg op s).1 := by
  unfold cmdSetSampling
  split
  · exact .refl s
  · exact State.keeps_partWide (fun _ => State.keeps_of_same rfl rfl) s p

theorem keeps_cmdTrimSet (p : Party) (target arg : Nibble) (op : Word) (s : State) :
    s.Keeps (cmdTrimSet p target arg op s).1 := by
  unfold cmdTrimSet
  split
  · exact .refl s
  · exact State.keeps_partWide (fun u => (u.keeps_modChannel _ _).reply _) s p

theorem keeps_cmdTrimRead (p : Party) (target arg : Nibble) (s : State) : s.Keeps (cmdTrimRead p target arg s).1 := by
  unfold cmdTrimRead
  split <;> exact .refl s

theorem keeps_cmdTrimProgram (p : Party) (target arg : Nibble) (s : State) :
    s.Keeps (cmdTrimProgram p target arg s).1 := by
  unfold cmdTrimProgram
  split
  · exact .refl s
  · refine State.keeps_partWide (fun u => ?_) s p
    split
    · exact .refl u
    · exact State.keeps_of_same rfl rfl

theorem keeps_cmdDeviceReset (p : Party) (target arg : Nibble) (s : State) :
    s.Keeps (cmdDeviceReset p target arg s).1 := by
  unfold cmdDeviceReset
  repeat' split
  iterate 3 exact .refl s
  exact s.keeps_resetAll .command

/-! ## The shelf inputs -/

theorem State.keeps_atEverySlot {f : State → Fin 8 → State} (h : ∀ (u : State) i, u.Keeps (f u i)) (s : State) :
    s.Keeps (s.atEverySlot f) := by
  unfold State.atEverySlot
  induction List.finRange 8 generalizing s with
  | nil => exact .refl s
  | cons i rest ih => exact (h s i).trans (ih _)

theorem State.keeps_assertInput {set : State → State} (hset : ∀ u : State, u.Keeps (set u)) (s : State)
    (k : PartFault) (already : Bool) : s.Keeps (s.assertInput k already set) := by
  have hraised : s.Keeps (set (s.raisePart k)) :=
    State.Keeps.trans (u := s.raisePart k) (State.keeps_of_same rfl rfl) (hset _)
  unfold State.assertInput
  dsimp only
  split
  · exact .refl s
  split
  · exact hraised
  · exact hraised.trans (State.keeps_atEverySlot State.keeps_pauseSlot _)

theorem State.keeps_releaseInput {set : State → State} (hset : ∀ u : State, u.Keeps (set u)) (s : State) :
    s.Keeps (s.releaseInput set) := by
  unfold State.releaseInput
  dsimp only
  split
  · exact (hset s).trans (State.keeps_atEverySlot State.keeps_resumeSlot _)
  · exact hset s

theorem State.keeps_completeProgramming (s : State) : s.Keeps s.completeProgramming := by
  unfold State.completeProgramming
  split
  · exact .refl s
  · exact State.keeps_of_same rfl rfl

/-! ## Every command, every event, every step -/

theorem keeps_act (c : Cmd) (p : Party) (target arg : Nibble) (ops : List Word) (s : State) :
    s.Keeps (Cmd.act c p target arg ops s).1 := by
  cases c with
  | bind => exact keeps_cmdBind p target arg s
  | unbind => exact keeps_cmdUnbind p target arg s
  | start => exact keeps_cmdStart p target arg s
  | stop => exact keeps_cmdStop p target arg s
  | ack => exact keeps_cmdAck p target arg s
  | drive => exact keeps_cmdDrive p target arg _ s
  | setConv => exact keeps_cmdSetConv p target arg _ s
  | slotInit => exact keeps_cmdSlotInit p target arg s
  | status => exact s.keeps_onAnySlot ..
  | summaryRead => exact keeps_cmdSummaryRead p target arg s
  | take => exact keeps_cmdTake p target arg s
  | release => exact keeps_cmdRelease p target arg s
  | holdTime => exact keeps_cmdHoldTime p target arg _ s
  | evPeek => exact keeps_cmdEvPeek p target arg s
  | evRetire => exact State.keeps_onStack (fun _ => Slot.unmoved_of_active rfl rfl rfl rfl) s p target
  | evFree => exact keeps_cmdEvFree p target arg s
  | evClear => exact State.keeps_onStack (fun _ => Slot.unmoved_of_active rfl rfl rfl rfl) s p target
  | faultRead => exact keeps_cmdFaultRead p target arg _ s
  | alertMask => exact keeps_cmdAlertMask p target arg _ s
  | profileWrite => exact keeps_cmdProfileWrite p target arg ops s
  | profileRead => exact .refl s
  | pair => exact keeps_cmdPair p target arg s
  | partStatus => exact keeps_cmdPartStatus p target arg s
  | setSampling => exact keeps_cmdSetSampling p target arg _ s
  | trimSet => exact keeps_cmdTrimSet p target arg _ s
  | trimRead => exact keeps_cmdTrimRead p target arg s
  | trimProgram => exact keeps_cmdTrimProgram p target arg s
  | deviceReset => exact keeps_cmdDeviceReset p target arg s

theorem State.live_keeps {s u t : State} {f : State → State} (hu : s.Keeps u) (h : ∀ v : State, v.Keeps (f v))
    (ht : u.live f = .next t) : s.Keeps t := by
  unfold State.live at ht
  injection ht with ht
  rw [← ht]
  split
  · exact hu
  · exact hu.trans (h u)

theorem keeps_event {e : Instr} (he : isEvent e = true) {s t : State} (h : exec e s = .next t) : s.Keeps t := by
  have pins (p : Pins) : s.Keeps { s with pins := p } := State.keeps_of_same rfl rfl
  have heat (b : Bool) (u : State) : u.Keeps { u with heat := b } := State.keeps_of_same rfl rfl
  have supply (b : Bool) (u : State) : u.Keeps { u with supplyLow := b } := State.keeps_of_same rfl rfl
  cases e with
  | sampleArrival ch code => exact State.live_keeps (.refl s) (fun v => v.keeps_sampleArrival ch code) h
  | pairSampleEvent pr x y => exact State.live_keeps (.refl s) (fun v => v.keeps_pairSample pr x y) h
  | onTimeExpiry i => exact State.live_keeps (.refl s) (fun v => v.keeps_onTimeExpiry i) h
  | bleedExpiry i => exact State.live_keeps (.refl s) (fun v => v.keeps_bleedExpiry i) h
  | restExpiry i => exact State.live_keeps (.refl s) (fun v => v.keeps_restExpiry i) h
  | endOfLead i => exact State.live_keeps (.refl s) (fun v => v.keeps_endOfLead i) h
  | drainCompletion i => exact State.live_keeps (.refl s) (fun v => v.keeps_drainCompletion i) h
  | holdTimerExpiry i => exact State.live_keeps (.refl s) (fun v => v.keeps_holdExpiry i) h
  | trimProgrammingCompletion => exact State.live_keeps (.refl s) State.keeps_completeProgramming h
  | heatAsserted => exact State.live_keeps (pins _) (fun v => v.keeps_assertInput (heat true) _ _) h
  | heatReleased => exact State.live_keeps (pins _) (State.keeps_releaseInput (heat false)) h
  | supplyLowAsserted => exact State.live_keeps (pins _) (fun v => v.keeps_assertInput (supply true) _ _) h
  | supplyLowReleased => exact State.live_keeps (pins _) (State.keeps_releaseInput (supply false)) h
  | resetLineAsserted =>
    injection h with h
    rw [← h]
    split
    · exact .refl s
    · exact State.keeps_of_same rfl rfl
  | resetLineReleased =>
    injection h with h
    rw [← h]
    split
    · dsimp only
      split
      · exact (pins _).trans (State.keeps_resetAll ..)
      · exact pins _
    · exact .refl s
  | logicSupplyLoss =>
    injection h with h
    rw [← h]
    split
    · exact State.keeps_of_same rfl rfl
    · exact .refl s
  | powerOn =>
    injection h with h
    rw [← h]
    split
    · exact .refl s
    · exact (pins _).trans (State.keeps_resetAll ..)
  | _ => exact Bool.noConfusion he

theorem exec_keeps {c : Instr} {s t : State} (h : exec c s = .next t) : s.Keeps t := by
  cases hc : isEvent c with
  | true => exact keeps_event hc h
  | false =>
    obtain ⟨t', ht', htakes⟩ := exec_takes c s hc
    rw [h] at ht'
    injection ht' with e
    rw [e]
    cases htakes with
    | wires hw => exact hw.keeps
    | command c p target arg ops hu _ _ hw =>
      exact ((State.OnlyWires.keeps hu).trans (keeps_act c p target arg ops _)).trans (State.OnlyWires.keeps hw)

theorem step_keeps {s t : State} (h : step s = .next t) : s.Keeps t := by
  unfold step at h
  split at h
  next rest _ => exact State.Keeps.trans (u := { s with pending := rest }) (State.keeps_of_same rfl rfl) (exec_keeps h)
  · unfold idleStep at h
    split at h
    · exact State.Keeps.trans (u := s.useFree) (State.keeps_of_same rfl rfl) (exec_keeps h)
    · injection h with h
      rw [← h]
      exact s.keeps_tick

/-- Settles O8: what moves a slot on leaves it orderly, a TAKE parks and starts the timer, the end of a bench hold stops it and
restores or drains to RESTORE, and a PAIR finds both its slots rack-held. -/
theorem benchHoldsAndContextShapesAreKept : Obligations.BenchHoldsAndContextShapesAreKept :=
  fun s t hbench hholds hshaped hstep =>
    t.orderly_iff.mp ((step_keeps hstep).orderly (s.orderly_iff.mpr ⟨hbench, hholds, hshaped⟩))

/-- Settles O14: whatever takes a slot out of MANUAL makes its rail requests absent, and a DRIVE sets them in MANUAL alone, of
a DUAL pair. -/
theorem railRequestsStandOnlyInManual : Obligations.RailRequestsStandOnlyInManual :=
  fun _ _ hrails hstep => (step_keeps hstep).rails hrails

end Sys2Proof.Machine
end

section
/-!
PROOFS. HOLD-TIME sets the setting (O42), and TAKE hands a slot over to the bench (O40).
-/

namespace Sys2Proof.Machine

/-! ## HOLD-TIME -/

theorem minutesStored_eq (op : Word) :
    minutesStored op = if op.toNat = 0 then 1 else if 120 < op.toNat then 120 else op.toNat := by
  unfold minutesStored clamp
  split_ifs <;> omega

/-- The clamped setting is the carried one within the range. -/
theorem minutesStored_eq_self_iff (op : Word) : minutesStored op = op.toNat ↔ 1 ≤ op.toNat ∧ op.toNat ≤ 120 := by
  unfold minutesStored clamp
  omega

/-- Settles O42: past the target and the party HOLD-TIME is the clamped setting. -/
theorem holdTimeSetsTheSetting : Obligations.HoldTimeSetsTheSetting := by
  intro p target arg op s h n
  refine ⟨fun htarget => ?_, ?_, ?_⟩
  · have hpart : isPart target = false := Bool.eq_false_iff.mpr (mt (isPart_iff target).mp htarget)
    exact State.command_refuses h .holdTime arg (by simp [cmdHoldTime, hpart, State.refuse])
  · rintro rfl rfl
    exact State.command_refuses h .holdTime arg rfl
  · rintro rfl rfl
    obtain ⟨t, hexec, hans, ht⟩ : ∃ t, exec (.holdTime .bench 15 arg op) s = .next t
        ∧ s.Answered .bench .holdTime 15 (if minutesStored op = op.toNat then .ok else .clamped) [] t
        ∧ State.OnlyPorts { s with holdSetting := minutesStored op } t :=
      State.command_replies h .holdTime rfl ⟨rfl, rfl, rfl⟩
    refine ⟨t, hexec, ?_, ?_, ?_⟩
    · simpa only [minutesStored_eq_self_iff] using hans
    · rw [← minutesStored_eq, ht]
    · rw [ht]

/-! ## A slot changes hands -/

/-- A slot and the upper slot of its paired pair get a holder, and the slot's hold timer is set: the last work of a TAKE and
of the end of a bench hold (R137, R147, R154). -/
def State.handTo (s : State) (i : Fin 8) (p : Party) (timer : Option Nat) : State :=
  (s.setHolder i p).modSlot i fun sl => { sl with holdTimer := timer }

section
variable (s : State) {i : Fin 8} (p : Party) (timer : Option Nat)

theorem State.slot_handTo_self (i : Fin 8) :
    (s.handTo i p timer).slot i = { s.slot i with holder := p, holdTimer := timer } := by
  rw [State.handTo, State.slot_modSlot_self, State.slot_setHolder, if_pos (.inl rfl)]

theorem State.slot_handTo_ne {j : Fin 8} (hj : j ≠ i) :
    (s.handTo i p timer).slot j =
      { s.slot j with holder := if s.lowerPaired i ∧ j = upperOf (pairOf i) then p else (s.slot j).holder } := by
  rw [State.handTo, State.slot_modSlot_ne _ _ hj, State.slot_setHolder]
  simp only [hj, false_or]

theorem State.handTo_frame (i : Fin 8) :
    s.handTo i p timer = { s with slots := (s.handTo i p timer).slots } := by
  rw [State.handTo, State.setHolder_frame]
  rfl

end

/-! ## TAKE -/

theorem Context.park_eq (c : Context) :
    c.park =
      { c with
        state := if c.state = .manual then .idle else c.state, timer := none, drainNext := none, subPhase := none } := by
  unfold Context.park
  cases c.state <;> rfl

/-- A context in its reset condition, but for a drain that leads to `next`. -/
def drainingContext (timer : Option Timer) (next : DrainNext) : Context :=
  { Context.reset with state := .drain, timer := timer, drainNext := some next }

theorem freshContext_eq (r : ProfileRecord) (c : Context) :
    freshContext r c =
      if c.state = .runOn ∨ c.state = .manual then drainingContext (freshTimer (drainOf r)) .idle
      else if c.state = .runBleed then drainingContext c.timer .idle
      else Context.reset := by
  unfold freshContext
  cases c.state <;> rfl

theorem takeAllowed_of {st : SlotState} {arg : Nibble} (hdrain : st ≠ .drain)
    (h : arg = 1 ∨ st = .idle ∨ st = .faulted ∨ st = .runRest ∨ st = .paused) : takeAllowed st (arg == 1) = true := by
  rcases h with rfl | rfl | rfl | rfl | rfl
  · cases st with
    | drain => exact absurd rfl hdrain
    | idle | manual | runOn | runBleed | runRest | paused | faulted => rfl
  all_goals rfl

/-- A slot whose on-phase, if it is in one, a preempting TAKE has ended (R147). -/
def State.preempted (s : State) (i : Fin 8) : State :=
  if (s.slot i).active.state = .runOn then s.abandonOnPhase i .abort else s

theorem State.runsAt_preempted (s : State) (i : Fin 8) : State.RunsAt i s (s.preempted i) := by
  unfold State.preempted
  split
  · exact s.runsAt_abandonOnPhase i .abort
  · exact .refl i s

theorem State.slot_preempted (s : State) (i : Fin 8) :
    (s.preempted i).slot i =
      if (s.slot i).active.state = .runOn then (s.slot i).formSummary (s.env i) .abort false else s.slot i := by
  unfold State.preempted
  split
  · exact s.slot_abandonOnPhase i .abort
  · rfl

/-- Ending the on-phase leaves the context's state, timer and binding. -/
theorem State.active_preempted (s : State) (i : Fin 8) :
    ((s.preempted i).slot i).active.state = (s.slot i).active.state
      ∧ ((s.preempted i).slot i).active.timer = (s.slot i).active.timer
      ∧ ((s.preempted i).slot i).active.bound = (s.slot i).active.bound := by
  rw [State.slot_preempted]
  split
  · rw [Slot.formSummary_active]
    exact ⟨rfl, rfl, rfl⟩
  · exact ⟨rfl, rfl, rfl⟩

theorem State.preempted_frame (s : State) (i : Fin 8) : s.preempted i = { s with slots := (s.preempted i).slots } := by
  unfold State.preempted
  split <;> rfl

/-- The rack's context parked and the bench's in its place, before the slot changes hands (R148, R149). -/
def State.handedOver (s : State) (i : Fin 8) : State :=
  ((s.preempted i).modSlot i fun sl => sl.handOver ((s.preempted i).activeRecord i)).clearRails i

theorem State.handedOver_frame (s : State) (i : Fin 8) :
    s.handedOver i = { s with slots := (s.handedOver i).slots, pairs := (s.handedOver i).pairs } := by
  unfold State.handedOver
  rw [s.preempted_frame i]
  rfl

theorem State.slot_handedOver (s : State) (i : Fin 8) :
    (s.handedOver i).slot i =
      { (s.preempted i).slot i with
        parked := some ((s.preempted i).slot i).active.park
        active := freshContext (s.activeRecord i) (s.slot i).active } := by
  obtain ⟨hstate, htimer, hbound⟩ := s.active_preempted i
  have hfresh (r : ProfileRecord) :
      freshContext r (s.slot i).active = freshContext r ((s.preempted i).slot i).active := by
    rw [freshContext_eq, freshContext_eq, hstate, htimer]
  rw [hfresh, ← (s.runsAt_preempted i).activeRecord hbound, State.handedOver, State.slot_clearRails,
    State.slot_modSlot_self]
  rfl

theorem State.slot_handedOver_ne (s : State) {i j : Fin 8} (hj : j ≠ i) : (s.handedOver i).slot j = s.slot j := by
  rw [State.handedOver, State.slot_clearRails, State.slot_modSlot_ne _ _ hj]
  exact (s.runsAt_preempted i).slot_ne hj

theorem State.pair_clearRails (s : State) (i : Fin 8) (q : Fin 4) :
    (s.clearRails i).pair q = { s.pair q with rails := if q = pairOf i then none else (s.pair q).rails } := by
  rw [State.clearRails, State.pair_modPair]
  split
  · subst_vars; rfl
  · rfl

theorem State.pair_handedOver (s : State) (i : Fin 8) (q : Fin 4) :
    (s.handedOver i).pair q = { s.pair q with rails := if q = pairOf i then none else (s.pair q).rails } := by
  rw [State.handedOver, State.pair_clearRails, State.pair_modSlot, (s.runsAt_preempted i).pair]

theorem State.takeSlot_eq (s : State) (i : Fin 8) :
    s.takeSlot i = (s.handedOver i).handTo i .bench (some s.holdFull) := by
  have hfull : (s.handedOver i).holdFull = s.holdFull := by
    rw [s.handedOver_frame i]
    rfl
  rw [← hfull]
  rfl

/-- A TAKE that the slot's state and the preempt choice allow (R147). -/
theorem cmdTake_allowed {s : State} {i : Fin 8} {arg : Nibble} (harg : ¬ 2 ≤ arg.toNat) (hup : s.upperPaired i = false)
    (hrack : (s.slot i).holder = .rack) (h : takeAllowed (s.slot i).active.state (arg == 1) = true) :
    cmdTake .bench (slotField i) arg s = (s.takeSlot i, Reply.bare .ok) := by
  rw [cmdTake, slotOf_slotField]
  simp only [if_neg harg, hup, hrack, h]
  rfl

/-- Settles O40: on a rack-held slot TAKE hands the slot over; on a bench-held one it restarts the hold timer. -/
theorem takeParksTheRacksContext : Obligations.TakeParksTheRacksContext := by
  intro i arg s h hup harg
  have hcode : ¬ 2 ≤ arg.toNat := by rcases harg with rfl | rfl <;> decide
  refine ⟨fun hbench => ?_, ?_⟩
  · have hr : s.Reaches .bench i := ⟨h, hup, hbench⟩
    obtain ⟨t, hexec, hans, ht⟩ : ∃ t, exec (.take .bench (slotField i) arg) s = .next t
        ∧ s.Answered .bench .take (slotField i) .ok [] t ∧ (s.restartHold .bench i).OnlyPorts t :=
      State.command_replies h .take (by simp [cmdTake, hcode, hup, hbench, State.reply]) hr.runsAt_restartHold.portsKept
    refine ⟨t, hexec, hans, ?_, hr.onlySlot_restartHold.ports ht⟩
    rw [State.OnlyPorts.slot ht, hr.slot_restartHold]
    rfl
  · intro hrack st ended draining hdrain hallowed
    have hframe : s.takeSlot i = { s with slots := (s.takeSlot i).slots, pairs := (s.takeSlot i).pairs } := by
      rw [State.takeSlot_eq, State.handTo_frame, State.handedOver_frame]
    have hlower : (s.handedOver i).lowerPaired i = s.lowerPaired i := by
      simp only [State.lowerPaired, State.isPaired, State.mode, State.pair_handedOver]
    have hended : (s.preempted i).slot i = ended := s.slot_preempted i
    obtain ⟨hstate, -, -⟩ := s.active_preempted i
    rw [hended] at hstate
    obtain ⟨t, hexec, hans, ht⟩ : ∃ t, exec (.take .bench (slotField i) arg) s = .next t
        ∧ s.Answered .bench .take (slotField i) .ok [] t ∧ (s.takeSlot i).OnlyPorts t :=
      State.command_replies h .take
        (cmdTake_allowed hcode hup hrack (takeAllowed_of hdrain hallowed))
        (by rw [hframe]; exact ⟨rfl, rfl, rfl⟩)
    refine ⟨t, hexec, hans, ?_, fun j hj => ?_, fun q => ?_, ?_⟩
    · rw [State.OnlyPorts.slot ht, State.takeSlot_eq, State.slot_handTo_self, State.slot_handedOver, hended,
        Context.park_eq, freshContext_eq, hstate]
      rfl
    · rw [State.OnlyPorts.slot ht, State.takeSlot_eq, State.slot_handTo_ne _ _ _ hj, hlower,
        State.slot_handedOver_ne s hj]
    · rw [State.OnlyPorts.pair ht, State.takeSlot_eq, State.handTo_frame]
      exact s.pair_handedOver i q
    · rw [ht, hframe]

end Sys2Proof.Machine
end

section
/-!
PROOFS. RELEASE and the hold timer's expiry end the bench's hold (O41).
-/

namespace Sys2Proof.Machine

/-! ## The bench's context ends -/

/-- Slot `i` has given up its active context and that context's binding: besides the slot only trip counts and the use count
of the binding may differ (R53, R154). -/
structure State.GivesUpContext (i : Fin 8) (s t : State) : Prop where
  slot_ne : ∀ j, j ≠ i → t.slot j = s.slot j
  channel : ∀ ch, t.channel ch = { s.channel ch with tripCount := (t.channel ch).tripCount }
  releases : s.ReleasesBinding i t
  frame : t = { s with slots := t.slots, channels := t.channels, profiles := t.profiles }

theorem State.drainToRestore_frame (s : State) (i : Fin 8) (timer : Option Timer) :
    s.drainToRestore i timer =
      { s with slots := (s.drainToRestore i timer).slots, profiles := (s.drainToRestore i timer).profiles } := by
  rw [State.drainToRestore, State.releaseBinding_frame]
  rfl

theorem State.slot_drainToRestore (s : State) (i : Fin 8) (timer : Option Timer) :
    (s.drainToRestore i timer).slot i = { s.slot i with active := drainingContext timer .restore } := by
  rw [State.drainToRestore, State.slot_modSlot_self, State.slot_releaseBinding, if_pos rfl]
  rfl

theorem State.channel_drainToRestore (s : State) (i : Fin 8) (timer : Option Timer) (ch : Fin 8) :
    (s.drainToRestore i timer).channel ch = s.channel ch := by
  rw [State.drainToRestore_frame]
  rfl

/-- The drain may follow the end of an on-phase, which leaves the binding. -/
theorem State.RunsAt.givesUp_drainToRestore {s u : State} {i : Fin 8} (h : State.RunsAt i s u)
    (hbound : (u.slot i).active.bound = (s.slot i).active.bound) (timer : Option Timer) :
    State.GivesUpContext i s (u.drainToRestore i timer) where
  slot_ne j hj := by
    rw [State.drainToRestore, State.slot_modSlot_ne _ _ hj, State.slot_releaseBinding, if_neg hj, h.slot_ne hj]
  channel ch := by
    rw [State.channel_drainToRestore]
    exact h.2.1 ch
  releases q := by
    rw [State.drainToRestore, State.profile_modSlot, u.profile_releaseBinding i q, h.profile, hbound]
  frame := by
    rw [State.drainToRestore_frame, h.2.2]

theorem State.givesUp_restore (s : State) (i : Fin 8) : State.GivesUpContext i s (s.restore i) := by
  cases hp : (s.slot i).parked with
  | some c =>
    obtain ⟨hslot, hchannel, hreleases, hframe⟩ := State.restore_reach hp
    exact ⟨hslot, hchannel, hreleases, hframe⟩
  | none =>
    have hparked : ((s.releaseBinding i).slot i).parked = none := by rw [State.slot_releaseBinding, if_pos rfl, hp]
    have e : s.restore i = (s.releaseBinding i).modSlot i fun sl => { sl with active := Context.reset } := by
      unfold State.restore
      dsimp only
      rw [hparked]
    rw [e]
    refine ⟨fun j hj => ?_, fun ch => ?_, s.profile_releaseBinding i, ?_⟩
    · rw [State.slot_modSlot_ne _ _ hj, State.slot_releaseBinding, if_neg hj]
    · rw [State.releaseBinding_frame]
      rfl
    · rw [State.releaseBinding_frame]
      rfl

/-! What the end of the bench's context is, by the context's state (R154). -/

theorem State.endBenchContext_of_runOn {s : State} {i : Fin 8} (h : (s.slot i).active.state = .runOn) :
    s.endBenchContext i =
      (s.abandonOnPhase i .abort).drainToRestore i (freshTimer (drainOf (s.activeRecord i))) := by
  rw [State.endBenchContext, h]
  rfl

theorem State.endBenchContext_of_manual {s : State} {i : Fin 8} (h : (s.slot i).active.state = .manual) :
    s.endBenchContext i = (s.drainToRestore i (freshTimer (drainOf (s.activeRecord i)))).clearRails i := by
  rw [State.endBenchContext, h]
  rfl

theorem State.endBenchContext_of_bleeding {s : State} {i : Fin 8}
    (h : (s.slot i).active.state = .runBleed ∨ (s.slot i).active.state = .drain) :
    s.endBenchContext i = s.drainToRestore i (s.slot i).active.timer := by
  rcases h with h | h <;> rw [State.endBenchContext, h]

theorem State.endBenchContext_of_resting {s : State} {i : Fin 8}
    (h : (s.slot i).active.state = .idle ∨ (s.slot i).active.state = .runRest ∨ (s.slot i).active.state = .paused
      ∨ (s.slot i).active.state = .faulted) :
    s.endBenchContext i = s.restore i := by
  rcases h with h | h | h | h <;> rw [State.endBenchContext, h]

/-- How far the end of the bench's context reaches: as far as giving a context up, and from MANUAL to the rail requests
(R143, R154). -/
theorem State.endBenchContext_reach (s : State) (i : Fin 8) :
    ∃ u, State.GivesUpContext i s u
      ∧ s.endBenchContext i = if (s.slot i).active.state = .manual then u.clearRails i else u := by
  have hdrain (timer : Option Timer) : State.GivesUpContext i s (s.drainToRestore i timer) :=
    (State.RunsAt.refl i s).givesUp_drainToRestore rfl timer
  cases h : (s.slot i).active.state with
  | runOn =>
    refine ⟨_, (s.runsAt_abandonOnPhase i .abort).givesUp_drainToRestore ?_ _, State.endBenchContext_of_runOn h⟩
    rw [State.slot_abandonOnPhase, Slot.formSummary_active]
    rfl
  | manual => exact ⟨_, hdrain _, State.endBenchContext_of_manual h⟩
  | runBleed => exact ⟨_, hdrain _, State.endBenchContext_of_bleeding (.inl h)⟩
  | drain => exact ⟨_, hdrain _, State.endBenchContext_of_bleeding (.inr h)⟩
  | idle => exact ⟨_, s.givesUp_restore i, State.endBenchContext_of_resting (.inl h)⟩
  | runRest => exact ⟨_, s.givesUp_restore i, State.endBenchContext_of_resting (.inr (.inl h))⟩
  | paused => exact ⟨_, s.givesUp_restore i, State.endBenchContext_of_resting (.inr (.inr (.inl h)))⟩
  | faulted => exact ⟨_, s.givesUp_restore i, State.endBenchContext_of_resting (.inr (.inr (.inr h)))⟩

/-- A feed or a bleed that ends leaves the trip counts: a restore alone may begin an on-phase (R121). -/
theorem State.channel_endBenchContext {s : State} {i : Fin 8}
    (h : (s.slot i).active.state = .runOn ∨ (s.slot i).active.state = .manual ∨ (s.slot i).active.state = .runBleed
      ∨ (s.slot i).active.state = .drain) (ch : Fin 8) : (s.endBenchContext i).channel ch = s.channel ch := by
  rcases h with h | h | h
  · rw [State.endBenchContext_of_runOn h, State.channel_drainToRestore]
    rfl
  · rw [State.endBenchContext_of_manual h, State.clearRails, State.channel_modPair, State.channel_drainToRestore]
  · rw [State.endBenchContext_of_bleeding h, State.channel_drainToRestore]

/-- The slots, channels, pairs and profiles that the end of the bench's context leaves. -/
theorem State.endBenchContext_kept (s : State) (i : Fin 8) :
    (∀ j, j ≠ i → (s.endBenchContext i).slot j = s.slot j)
      ∧ (∀ ch, (s.endBenchContext i).channel ch =
          { s.channel ch with tripCount := ((s.endBenchContext i).channel ch).tripCount })
      ∧ (∀ q, (s.endBenchContext i).pair q =
          { s.pair q with
            rails := if (s.slot i).active.state = .manual ∧ q = pairOf i then none else (s.pair q).rails })
      ∧ s.ReleasesBinding i (s.endBenchContext i)
      ∧ s.endBenchContext i =
          { s with
            slots := (s.endBenchContext i).slots, channels := (s.endBenchContext i).channels
            pairs := (s.endBenchContext i).pairs, profiles := (s.endBenchContext i).profiles } := by
  obtain ⟨u, ⟨hslot, hchannel, hreleases, hframe⟩, e⟩ := s.endBenchContext_reach i
  have hpair (q : Fin 4) : u.pair q = s.pair q := by
    rw [hframe]
    rfl
  rw [e]
  by_cases hm : (s.slot i).active.state = .manual
  · rw [if_pos hm]
    refine ⟨hslot, hchannel, fun q => ?_, hreleases, ?_⟩
    · rw [State.pair_clearRails, hpair]
      simp only [hm, true_and]
    · rw [hframe]
      rfl
  · rw [if_neg hm]
    refine ⟨hslot, hchannel, fun q => ?_, hreleases, ?_⟩
    · rw [hpair, if_neg (fun h => hm h.1)]
    · rw [hframe]

/-! ## The bench's hold ends -/

theorem State.endBenchHold_eq (s : State) (i : Fin 8) :
    s.endBenchHold i = (s.endBenchContext i).handTo i .rack none := rfl

theorem State.goneOn_handed (s : State) (i : Fin 8) (hold : Bool) (sl : Slot) (c : Context) (p : Party)
    (timer : Option Nat) :
    s.goneOn i hold { sl with holder := p, holdTimer := timer } c =
      { s.goneOn i hold sl c with holder := p, holdTimer := timer } := by
  unfold State.goneOn
  dsimp only
  split_ifs <;> rfl

/-- A slot at which a context has been restored and that then changes hands. -/
theorem State.Restores.handTo {s u : State} {i : Fin 8} {sl : Slot} {c : Context} (h : s.Restores i sl c u) (p : Party)
    (timer : Option Nat) : s.Restores i { sl with holder := p, holdTimer := timer } c (u.handTo i p timer) := by
  obtain ⟨hrest, hrun⟩ := h
  have hchannel (ch : Fin 8) : (u.handTo i p timer).channel ch = u.channel ch := by
    rw [State.handTo_frame]
    rfl
  simp only [State.Restores, State.RunGoesOn, State.slot_handTo_self, hchannel, State.goneOn_handed]
  refine ⟨fun hst => ?_, fun hst => ?_⟩
  · obtain ⟨hslot, htrips⟩ := hrest hst
    rw [hslot]
    exact ⟨rfl, htrips⟩
  · obtain ⟨hslot, htrips⟩ := hrun hst
    rw [hslot]
    exact ⟨rfl, htrips⟩

/-- The end of the bench's hold at a slot not standing aside, in the terms of R154. -/
theorem State.benchHoldEnds_endBenchHold {s : State} {i : Fin 8} (hup : s.upperPaired i = false) :
    s.BenchHoldEnds i (s.endBenchHold i) := by
  obtain ⟨hslot, hchannel, hpair, hreleases, hframe⟩ := s.endBenchContext_kept i
  have hlower : (s.endBenchContext i).lowerPaired i = s.lowerPaired i := by
    simp only [State.lowerPaired, State.isPaired, State.mode, hpair]
  have hhanded := (s.endBenchContext i).handTo_frame .rack none i
  have hch (ch : Fin 8) : (s.endBenchHold i).channel ch = (s.endBenchContext i).channel ch := by
    rw [State.endBenchHold_eq, hhanded]
    rfl
  refine ⟨fun hst => ?_, fun hst => ?_, fun hst => ?_, fun hst c hc => ?_, fun j hj => ?_, fun ch => ?_,
    fun hst ch => ?_, fun q => ?_, fun q => ?_, ?_⟩
  · rw [State.endBenchHold_eq, State.slot_handTo_self, State.endBenchContext_of_runOn hst, State.slot_drainToRestore,
      State.slot_abandonOnPhase]
    rfl
  · rw [State.endBenchHold_eq, State.slot_handTo_self, State.endBenchContext_of_manual hst, State.slot_clearRails,
      State.slot_drainToRestore]
    rfl
  · rw [State.endBenchHold_eq, State.slot_handTo_self, State.endBenchContext_of_bleeding hst, State.slot_drainToRestore]
    rfl
  · rw [State.endBenchHold_eq, State.endBenchContext_of_resting hst]
    exact (State.restores hup hc).handTo .rack none
  · rw [State.endBenchHold_eq, State.slot_handTo_ne _ _ _ hj, hslot j hj, hlower]
  · rw [hch]
    exact hchannel ch
  · rw [hch, State.channel_endBenchContext hst]
  · rw [State.endBenchHold_eq, hhanded]
    exact hpair q
  · rw [State.endBenchHold_eq, hhanded]
    exact hreleases q
  · rw [State.endBenchHold_eq, hhanded, hframe]

theorem State.portsKept_endBenchHold (s : State) (i : Fin 8) : s.PortsKept (s.endBenchHold i) := by
  obtain ⟨-, -, -, -, hframe⟩ := s.endBenchContext_kept i
  rw [State.endBenchHold_eq, State.handTo_frame, hframe]
  exact ⟨rfl, rfl, rfl⟩

theorem State.BenchHoldEnds.ports {s u t : State} {i : Fin 8} (h : s.BenchHoldEnds i u) (ht : u.OnlyPorts t) :
    s.BenchHoldEnds i t := by
  obtain ⟨hrun, hmanual, hbleed, hrest, hslot, hchannel, htrips, hpair, hreleases, hframe⟩ := h
  rw [ht]
  refine ⟨hrun, hmanual, hbleed, hrest, hslot, hchannel, htrips, hpair, hreleases, ?_⟩
  rw [hframe]

/-- Settles O41: both end the hold by the same update, after which an expiry raises EXPIRY. -/
theorem releaseAndExpiryEndTheBenchHold : Obligations.ReleaseAndExpiryEndTheBenchHold := by
  intro i s ⟨h, hup, hbench⟩
  have hends := State.benchHoldEnds_endBenchHold hup
  have hports := s.portsKept_endBenchHold i
  refine ⟨fun arg => ?_, fun htimer => ?_⟩
  · obtain ⟨t, hexec, hans, ht⟩ : ∃ t, exec (.release .bench (slotField i) arg) s = .next t
        ∧ s.Answered .bench .release (slotField i) .ok [] t ∧ (s.endBenchHold i).OnlyPorts t :=
      State.command_replies h .release (by simp [cmdRelease, hup, hbench, State.reply]) hports
    exact ⟨t, hexec, hans, State.BenchHoldEnds.ports hends ht⟩
  · have hexec : exec (.holdTimerExpiry i) s =
        .next ((s.endBenchHold i).modSlot i fun sl => sl.raise .expiry) := by
      refine (State.live_of_not_held (fun s => s.holdExpiry i) h).trans ?_
      rw [State.holdExpiry, if_pos ⟨hbench, Option.isSome_iff_ne_none.mpr htimer⟩]
    refine ⟨_, _, hexec, hends, hports, ?_, fun j hj => State.slot_modSlot_ne _ _ hj, rfl⟩
    rw [State.slot_modSlot_self]
    rfl

end Sys2Proof.Machine
end

section
/-!
PROOFS. The three resets put every block into its reset values (O55).
-/

namespace Sys2Proof.Machine

/-! ## What a reset leaves -/

theorem Slot.atReset_stack_tag (sl : Slot) (n : Fin 8) : (sl.atReset.stack[n]).tag = .empty := by
  simp [Slot.atReset, Slot.clearStack]

theorem Pins.benchAddress_eq (pins : Pins) :
    pins.benchAddress =
      if pins.bad1 then (if pins.bad0 then 0x5F else 0x5E) else if pins.bad0 then 0x5D else 0x5C := by
  unfold Pins.benchAddress
  cases pins.bad1 <;> cases pins.bad0 <;> rfl

/-- RESTART, and of HEAT and SUPPLY those whose input is asserted, stand raised with both marks (R172). -/
theorem resetFaults_eq (heat supplyLow : Bool) :
    resetFaults heat supplyLow =
      let bits : BitVec 5 := 0b00100 ||| (if heat then 0b00001 else 0) ||| (if supplyLow then 0b00010 else 0)
      { f := bits, uRack := bits, uBench := bits } := by
  cases heat <;> cases supplyLow <;> rfl

theorem Bus.queueEmptied_twice (b : Bus) : b.queueEmptied.queueEmptied = b.queueEmptied := by
  cases b <;> rfl

/-- The reset tables of every block, read off `State.resetAll` block by block. -/
theorem State.resetFrom_resetAll (s : State) (cause : ResetCause) : s.ResetFrom cause (s.resetAll cause) := by
  refine ⟨fun i => ?_, s.channel_resetAll cause, s.pair_resetAll cause, fun q => ?_, rfl, rfl, fun p => ?_, ?_,
    resetFaults_eq _ _, rfl, rfl, rfl, rfl, rfl, rfl, rfl, rfl, rfl, rfl⟩
  · rw [State.slot_resetAll]
    exact ⟨rfl, rfl, rfl, rfl, rfl, rfl, rfl, rfl, (s.slot i).atReset_stack_tag⟩
  · rw [State.profile_resetAll]
    exact ⟨rfl, fun hpower => if_pos hpower, fun hkept => if_neg hkept⟩
  · cases p <;> rfl
  · rw [← Pins.benchAddress_eq]
    rfl

theorem State.port_resetAll (s : State) (cause : ResetCause) (p : Party) : (s.resetAll cause).port p = Port.reset := by
  cases p <;> rfl

theorem State.ResetFrom.ports {s u t : State} {cause : ResetCause} (h : s.ResetFrom cause u) (ht : u.OnlyPorts t) :
    s.ResetFrom cause t := by
  rw [ht]
  exact h

/-! ## The three resets -/

theorem cmdDeviceReset_part (p : Party) (arg : Nibble) (s : State) :
    cmdDeviceReset p 15 arg s =
      if !s.holdsAll p then s.refuse .notPermitted
      else if s.trimBusy then s.refuse .busy
      else (s.resetAll .command).reply .ok := rfl

/-- A DEVICE-RESET that is taken: every block is reset, and the issuer alone is answered, by the ports newly reset (R184,
R185). -/
theorem deviceReset_completes {s : State} {p : Party} (h : s.held = false) (hall : ∀ i, (s.slot i).holder = p)
    (hnone : s.programming = none) (arg : Nibble) :
    ∃ t, exec (.deviceReset p 15 arg) s = .next t
      ∧ (s.resetAll .command).Answered p .deviceReset 15 .ok [] t ∧ (s.resetAll .command).OnlyPorts t := by
  have hact : cmdDeviceReset p 15 arg s = (s.resetAll .command, Reply.bare .ok) := by
    rw [← State.holdsAll_iff] at hall
    rw [cmdDeviceReset_part]
    simp [hall, State.trimBusy, hnone, State.reply]
  refine ⟨(s.resetAll .command).answer p Cmd.deviceReset.code 15 (Reply.bare .ok), ?_,
    State.answered_answer (r := Reply.bare .ok) ⟨rfl, rfl, rfl⟩ .., State.onlyPorts_answer ..⟩
  have hexec := s.command_of_not_held p .deviceReset 15 (cmdDeviceReset p 15 arg) h
  rw [hact] at hexec
  exact hexec

/-- Settles O55: each reset is `State.resetAll` with its cause, which gives every block the values of its table. -/
theorem resetsRestoreTheResetValues : Obligations.ResetsRestoreTheResetValues := by
  unfold Obligations.ResetsRestoreTheResetValues
  intro fresh offBus
  refine ⟨?_, fun s hreset hsupply => ?_, fun s hsupply => ?_⟩
  · intro p target arg s h n row all
    refine ⟨fun htarget => ?_, ?_, ?_, ?_⟩
    · have hpart : isPart target = false := Bool.eq_false_iff.mpr (mt (isPart_iff target).mp htarget)
      exact State.command_refuses h .deviceReset arg (by simp [cmdDeviceReset, hpart, State.refuse])
    · rintro rfl hall
      have hnot : s.holdsAll p = false := Bool.eq_false_iff.mpr (mt (s.holdsAll_iff p).mp hall)
      exact State.command_refuses h .deviceReset arg (by rw [cmdDeviceReset_part]; simp [hnot, State.refuse])
    · rintro rfl hall hbusy
      have hholds : s.holdsAll p = true := (s.holdsAll_iff p).mpr hall
      have htrim : s.trimBusy = true := s.trimBusy_iff.mpr hbusy
      exact State.command_refuses h .deviceReset arg (by rw [cmdDeviceReset_part]; simp [hholds, htrim, State.refuse])
    · rintro rfl hall hnone
      obtain ⟨t, hexec, ⟨hself, hother, hbus⟩, ht⟩ := deviceReset_completes h hall hnone arg
      refine ⟨t, hexec, State.ResetFrom.ports (s.resetFrom_resetAll .command) ht, ?_, ?_, ?_, ?_⟩
      · rw [hself, State.port_resetAll]
        rfl
      · rw [hother, State.port_resetAll]
        rfl
      · have hemptied : (s.resetAll .command).bus = s.bus.queueEmptied := rfl
        rw [hbus, hemptied, Bus.queueEmptied_twice, ite_self]
      · rw [ht]
        rfl
  · have hexec : exec .resetLineReleased s =
        .next (State.resetAll { s with pins := { s.pins with reset := false } } .line) := by
      simp [exec, execResetLineReleased, hreset, hsupply]
    exact ⟨_, hexec, State.resetFrom_resetAll { s with pins := { s.pins with reset := false } } .line,
      State.port_resetAll _ _, s.bus.abandon_eq, rfl⟩
  · have hexec : exec .powerOn s =
        .next (State.resetAll { s with pins := { s.pins with logicSupply := true } } .power) := by
      simp [exec, execPowerOn, hsupply]
    exact ⟨_, hexec, State.resetFrom_resetAll { s with pins := { s.pins with logicSupply := true } } .power,
      State.port_resetAll _ _, s.bus.abandon_eq, rfl⟩

end Sys2Proof.Machine
end

section
/-!
PROOFS. A party's command spares the slots that the other party holds (O15).
-/

namespace Sys2Proof.Machine

/-! ## The slots a party holds -/

/-- Every slot that party `q` holds is as it was. -/
def State.SparesSlotsOf (q : Party) (s t : State) : Prop := ∀ i, (s.slot i).holder = q → t.slot i = s.slot i

theorem State.SparesSlotsOf.refl (q : Party) (s : State) : State.SparesSlotsOf q s s := fun _ _ => rfl

theorem State.SparesSlotsOf.trans {q : Party} {s t u : State} (h : State.SparesSlotsOf q s t)
    (h' : State.SparesSlotsOf q t u) : State.SparesSlotsOf q s u := fun i hi =>
  (h' i (by rw [h i hi]; exact hi)).trans (h i hi)

theorem State.sparesSlotsOf_of_slots {q : Party} {s t : State} (h : t.slots = s.slots) : State.SparesSlotsOf q s t :=
  fun i _ => by rw [State.slot, h]; rfl

theorem otherParty_ne (p : Party) : otherParty p ≠ p := by cases p <;> decide

/-- Work at a slot that a party holds spares the other's. -/
theorem State.WorksAt.sparesSlotsOf {s t : State} {p : Party} {i : Fin 8} (h : State.WorksAt i s t)
    (hp : (s.slot i).holder = p) : State.SparesSlotsOf (otherParty p) s t := fun j hj => by
  refine h.1 j fun e => otherParty_ne p ?_
  rw [← hj, e, hp]

/-- A hold timer restarts for its own holder (R150). -/
theorem State.sparesSlotsOf_restartHold (s : State) (p : Party) (i : Fin 8) :
    State.SparesSlotsOf (otherParty p) s (s.restartHold p i) := fun j hj => by
  have htimer : s.readHold p i j = (s.slot j).holdTimer := by
    refine if_neg ?_
    rintro ⟨rfl, -, hbench⟩
    exact otherParty_ne .bench (hj.symm.trans hbench)
  rw [State.slot_restartHold, htimer]

/-! ## Acceptance -/

section
variable (s : State) (p : Party) (target : Nibble)

theorem State.sparesSlotsOf_onHeldSlot {act : Fin 8 → State → State × Reply}
    (h : ∀ (i : Fin 8) (u : State), State.WorksAt i u (act i u).1) :
    State.SparesSlotsOf (otherParty p) s (s.onHeldSlot p target act).1 := by
  rcases s.onHeldSlot_cases p target act with ⟨-, e⟩ | ⟨i, -, ⟨-, e⟩ | ⟨-, -, e⟩ | ⟨-, hp, e⟩⟩ <;> rw [e]
  · exact .refl _ s
  · exact .refl _ s
  · exact .refl _ s
  · refine (s.sparesSlotsOf_restartHold p i).trans ((h i _).sparesSlotsOf ?_)
    rw [State.slot_restartHold]
    exact hp

theorem State.sparesSlotsOf_onAnySlot (report : Fin 8 → State → Reply) :
    State.SparesSlotsOf (otherParty p) s (s.onAnySlot p target report).1 := by
  unfold State.onAnySlot
  split
  · exact .refl _ s
  · exact s.sparesSlotsOf_restartHold p _

theorem State.sparesSlotsOf_partWide {act : State → State × Reply} (h : ∀ u : State, (act u).1.slots = u.slots)
    (q : Party) : State.SparesSlotsOf q s (s.partWide p act).1 := by
  rcases s.partWide_cases p act with ⟨-, e⟩ | ⟨-, -, e⟩ | ⟨-, -, -, e⟩ <;> rw [e]
  · exact .refl q s
  · exact .refl q s
  · exact State.sparesSlotsOf_of_slots (h s)

/-! ## The holder's commands -/

theorem sparesSlotsOf_cmdBind (arg : Nibble) :
    State.SparesSlotsOf (otherParty p) s (cmdBind p target arg s).1 := by
  refine s.sparesSlotsOf_onHeldSlot p target fun i u => ?_
  split
  · exact .refl i u
  split
  · exact .refl i u
  · exact u.worksAt_bindTo i _

theorem sparesSlotsOf_cmdUnbind (arg : Nibble) :
    State.SparesSlotsOf (otherParty p) s (cmdUnbind p target arg s).1 := by
  refine s.sparesSlotsOf_onHeldSlot p target fun i u => ?_
  split
  · exact u.worksAt_releaseBinding i
  · exact u.worksAt_releaseBinding i
  · exact .refl i u

theorem sparesSlotsOf_cmdStart (arg : Nibble) :
    State.SparesSlotsOf (otherParty p) s (cmdStart p target arg s).1 := by
  refine s.sparesSlotsOf_onHeldSlot p target fun i u => ?_
  dsimp only
  repeat' split
  iterate 4 exact .refl i u
  exact (u.worksAt_modSlot ..).trans (State.worksAt_beginOnPhase ..)

theorem sparesSlotsOf_cmdStop (arg : Nibble) :
    State.SparesSlotsOf (otherParty p) s (cmdStop p target arg s).1 := by
  refine s.sparesSlotsOf_onHeldSlot p target fun i u => ?_
  split
  · exact (u.worksAt_abandonOnPhase ..).trans (State.worksAt_enterDrain ..)
  · exact u.worksAt_modSlot ..
  · exact u.worksAt_modSlot ..
  · exact u.worksAt_modSlot ..
  · exact (u.worksAt_enterDrain ..).trans (State.worksAt_clearRails ..)
  all_goals exact .refl i u

theorem sparesSlotsOf_cmdAck (arg : Nibble) :
    State.SparesSlotsOf (otherParty p) s (cmdAck p target arg s).1 := by
  refine s.sparesSlotsOf_onHeldSlot p target fun i u => ?_
  split
  · split
    · exact .refl i u
    · exact u.worksAt_modSlot ..
  all_goals exact .refl i u

theorem worksAt_driveSlot (form : DriveForm) (i : Fin 8) (u : State) : State.WorksAt i u (driveSlot form i u).1 := by
  unfold driveSlot
  split
  · split
    · exact .refl i u
    split
    · exact .refl i u
    · exact u.worksAt_enterManual ..
  · exact u.worksAt_enterDrain ..
  · exact .refl i u
  · exact u.worksAt_modPair ..
  · exact (u.worksAt_enterDrain ..).trans (State.worksAt_clearRails ..)
  · exact (u.worksAt_modSlot ..).trans (State.worksAt_clearRails ..)
  · exact .refl i u

theorem sparesSlotsOf_cmdDrive (arg : Nibble) (op : Word) :
    State.SparesSlotsOf (otherParty p) s (cmdDrive p target arg op s).1 := by
  unfold cmdDrive
  repeat' split
  iterate 3 exact .refl _ s
  exact s.sparesSlotsOf_onHeldSlot p target fun i u => worksAt_driveSlot _ i u

theorem sparesSlotsOf_cmdSetConv (arg : Nibble) (op : Word) :
    State.SparesSlotsOf (otherParty p) s (cmdSetConv p target arg op s).1 :=
  s.sparesSlotsOf_onHeldSlot p target fun _ u => u.worksAt_modSlot ..

theorem sparesSlotsOf_cmdSlotInit (arg : Nibble) :
    State.SparesSlotsOf (otherParty p) s (cmdSlotInit p target arg s).1 := by
  refine s.sparesSlotsOf_onHeldSlot p target fun i u => ?_
  split
  · exact u.worksAt_slotInit i
  · exact u.worksAt_slotInit i
  · exact .refl i u

theorem State.sparesSlotsOf_onStack (remove : Slot → Slot × Status) :
    State.SparesSlotsOf (otherParty p) s (s.onStack p target remove).1 := by
  refine s.sparesSlotsOf_onHeldSlot p target fun i u => ?_
  split
  · exact .refl i u
  · exact u.worksAt_modSlot ..

theorem sparesSlotsOf_cmdEvFree (arg : Nibble) :
    State.SparesSlotsOf (otherParty p) s (cmdEvFree p target arg s).1 := by
  unfold cmdEvFree
  split
  · exact .refl _ s
  · exact s.sparesSlotsOf_onStack p target _

/-! ## Reads, and the commands on the part -/

theorem sparesSlotsOf_cmdSummaryRead (arg : Nibble) :
    State.SparesSlotsOf (otherParty p) s (cmdSummaryRead p target arg s).1 := by
  unfold cmdSummaryRead
  split
  · exact .refl _ s
  · exact s.sparesSlotsOf_onAnySlot p target _

theorem sparesSlotsOf_cmdEvPeek (arg : Nibble) :
    State.SparesSlotsOf (otherParty p) s (cmdEvPeek p target arg s).1 := by
  unfold cmdEvPeek
  split
  · exact .refl _ s
  · exact s.sparesSlotsOf_onAnySlot p target _

theorem sparesSlotsOf_cmdSetSampling (arg : Nibble) (op : Word) (q : Party) :
    State.SparesSlotsOf q s (cmdSetSampling p target arg op s).1 := by
  unfold cmdSetSampling
  split
  · exact .refl q s
  · exact s.sparesSlotsOf_partWide p (fun _ => rfl) q

theorem sparesSlotsOf_cmdTrimSet (arg : Nibble) (op : Word) (q : Party) :
    State.SparesSlotsOf q s (cmdTrimSet p target arg op s).1 := by
  unfold cmdTrimSet
  split
  · exact .refl q s
  · exact s.sparesSlotsOf_partWide p (fun _ => rfl) q

theorem sparesSlotsOf_cmdTrimProgram (arg : Nibble) (q : Party) :
    State.SparesSlotsOf q s (cmdTrimProgram p target arg s).1 := by
  unfold cmdTrimProgram
  split
  · exact .refl q s
  · exact s.sparesSlotsOf_partWide p (fun u => by split <;> rfl) q

/-- A DEVICE-RESET finds no slot that the other party holds (R160). -/
theorem sparesSlotsOf_cmdDeviceReset (arg : Nibble) :
    State.SparesSlotsOf (otherParty p) s (cmdDeviceReset p target arg s).1 := by
  unfold cmdDeviceReset
  split
  · exact .refl _ s
  split
  · exact .refl _ s
  next hall =>
    split
    · exact .refl _ s
    · refine fun i hi => absurd (hi.symm.trans ?_) (otherParty_ne p)
      exact (s.holdsAll_iff p).mp (by simpa using hall) i

/-! ## Holds and pairs -/

/-- The end of a bench hold makes a paired upper slot the rack's, where the rack may hold it already. -/
theorem State.sparesSlotsOf_endBenchHold {i : Fin 8} (hbench : (s.slot i).holder = .bench) :
    State.SparesSlotsOf .rack s (s.endBenchHold i) := fun j hj => by
  have hji : j ≠ i := by
    rintro rfl
    exact nomatch hj.symm.trans hbench
  rw [State.endBenchHold_eq, State.slot_handTo_ne _ _ _ hji, (s.worksAt_endBenchContext i).1 j hji, hj, ite_self, ← hj]

theorem sparesSlotsOf_cmdRelease (arg : Nibble) :
    State.SparesSlotsOf (otherParty p) s (cmdRelease p target arg s).1 := by
  unfold cmdRelease
  split
  · exact .refl _ s
  split
  · exact .refl _ s
  next hp =>
    obtain rfl : p = .bench := by
      cases p with
      | rack => exact absurd rfl hp
      | bench => rfl
    split
    · exact .refl _ s
    split
    · exact .refl _ s
    next hbench => exact s.sparesSlotsOf_endBenchHold (not_not.mp hbench)

/-- A PAIR is taken from the holder of both slots (R134). -/
theorem State.sparesSlotsOf_setPair {pr : Fin 4} (mode : PairMode) (hp : (s.slot (upperOf pr)).holder = p) :
    State.SparesSlotsOf (otherParty p) s (s.setPair pr mode) := fun j hj => by
  refine s.slot_setPair_ne pr mode ?_
  rintro rfl
  exact otherParty_ne p (hj.symm.trans hp)

theorem sparesSlotsOf_cmdPair (arg : Nibble) :
    State.SparesSlotsOf (otherParty p) s (cmdPair p target arg s).1 := by
  unfold cmdPair
  split
  next pr mode _ _ =>
    dsimp only
    split
    · exact .refl _ s
    next hholders =>
      have hrestart := s.sparesSlotsOf_restartHold p (lowerOf pr)
      split
      · refine hrestart.trans (State.sparesSlotsOf_setPair _ p mode ?_)
        rw [State.slot_restartHold]
        exact not_not.mp (not_or.mp hholders).2
      · exact hrestart
  · exact .refl _ s

/-- Every command but TAKE and FAULT-READ leaves the other party's slots as they were. -/
theorem sparesSlotsOf_act {c : Cmd} (htake : c ≠ .take) (hread : c ≠ .faultRead) (arg : Nibble) (ops : List Word) :
    State.SparesSlotsOf (otherParty p) s (Cmd.act c p target arg ops s).1 := by
  cases c with
  | bind => exact sparesSlotsOf_cmdBind s p target arg
  | unbind => exact sparesSlotsOf_cmdUnbind s p target arg
  | start => exact sparesSlotsOf_cmdStart s p target arg
  | stop => exact sparesSlotsOf_cmdStop s p target arg
  | ack => exact sparesSlotsOf_cmdAck s p target arg
  | drive => exact sparesSlotsOf_cmdDrive s p target arg _
  | setConv => exact sparesSlotsOf_cmdSetConv s p target arg _
  | slotInit => exact sparesSlotsOf_cmdSlotInit s p target arg
  | status => exact s.sparesSlotsOf_onAnySlot p target _
  | summaryRead => exact sparesSlotsOf_cmdSummaryRead s p target arg
  | take => exact absurd rfl htake
  | release => exact sparesSlotsOf_cmdRelease s p target arg
  | holdTime => exact State.sparesSlotsOf_of_slots (slots_cmdHoldTime s p target arg _)
  | evPeek => exact sparesSlotsOf_cmdEvPeek s p target arg
  | evRetire => exact s.sparesSlotsOf_onStack p target _
  | evFree => exact sparesSlotsOf_cmdEvFree s p target arg
  | evClear => exact s.sparesSlotsOf_onStack p target _
  | faultRead => exact absurd rfl hread
  | alertMask => exact State.sparesSlotsOf_of_slots (slots_cmdAlertMask s p target arg _)
  | profileWrite => exact State.sparesSlotsOf_of_slots (slots_cmdProfileWrite s p target arg ops)
  | profileRead => exact .refl _ s
  | pair => exact sparesSlotsOf_cmdPair s p target arg
  | partStatus => exact State.sparesSlotsOf_of_slots (slots_cmdPartStatus s p target arg)
  | setSampling => exact sparesSlotsOf_cmdSetSampling s p target arg _ _
  | trimSet => exact sparesSlotsOf_cmdTrimSet s p target arg _ _
  | trimRead => exact State.sparesSlotsOf_of_slots (slots_cmdTrimRead s p target arg)
  | trimProgram => exact sparesSlotsOf_cmdTrimProgram s p target arg _
  | deviceReset => exact sparesSlotsOf_cmdDeviceReset s p target arg

end

/-! ## Unseen marks -/

/-- Marks with one party's unseen marks given. -/
def Marks.withUnseen {n : Nat} (m : Marks n) (p : Party) (u : BitVec n) : Marks n :=
  match p with
  | .rack => { m with uRack := u }
  | .bench => { m with uBench := u }

/-- A slot at which a party's unseen marks, and nothing else, may have been cleared. -/
def Slot.OnlyMarksCleared (p : Party) (sl sl' : Slot) : Prop :=
  sl' = { sl with faults := sl.faults.withUnseen p (sl'.faults.unseen p) }
    ∧ sl'.faults.unseen p &&& sl.faults.unseen p = sl'.faults.unseen p

theorem Slot.OnlyMarksCleared.refl (p : Party) (sl : Slot) : sl.OnlyMarksCleared p sl := by
  cases p <;> exact ⟨rfl, BitVec.and_self⟩

theorem Slot.onlyMarksCleared_clearMarks (sl : Slot) (p : Party) (mask : BitVec 7) :
    sl.OnlyMarksCleared p { sl with faults := sl.faults.clearMarks p mask } := by
  have hand (u : BitVec 7) : u &&& ~~~mask &&& u = u &&& ~~~mask := by
    rw [BitVec.and_comm, ← BitVec.and_assoc, BitVec.and_self]
  cases p <;> exact ⟨rfl, hand _⟩

/-- FAULT-READ clears no flag of a slot that its issuer does not hold (R165). -/
theorem cmdFaultRead_spares {s : State} {p : Party} {i : Fin 8} (hi : (s.slot i).holder = otherParty p)
    (target arg : Nibble) (op : Word) :
    (s.slot i).OnlyMarksCleared p ((cmdFaultRead p target arg op s).1.slot i) := by
  unfold cmdFaultRead
  split
  · exact .refl p _
  split
  · exact .refl p _
  next j _ =>
    dsimp only
    by_cases hj : i = j
    · subst hj
      have hholder : decide ((s.slot i).holder = p) = false := by
        rw [hi]
        exact decide_eq_false (otherParty_ne p)
      rw [State.slot_modSlot_self, s.sparesSlotsOf_restartHold p i i hi, hholder]
      exact (s.slot i).onlyMarksCleared_clearMarks p _
    · rw [State.slot_modSlot_ne _ _ hj, s.sparesSlotsOf_restartHold p j i hi]
      exact .refl p _

/-! ## The named commands -/

/-- A row that names a command is that command, taken at the party's port with the row's operand words. -/
theorem exec_of_named {c : Instr} {n : Named} (h : namedOf c = some n) :
    ∃ ops, ∀ s : State, exec c s = s.command n.party n.cmd n.target (Cmd.act n.cmd n.party n.target n.arg ops) := by
  cases c with
  | bind | unbind | start | stop | ack | slotInit | status | summaryRead | take | release | evPeek | evRetire | evFree
  | evClear | profileRead | pair | partStatus | trimRead | trimProgram | deviceReset =>
    obtain rfl := Option.some.inj h
    exact ⟨[], fun _ => rfl⟩
  | drive _ _ _ op | setConv _ _ _ op | holdTime _ _ _ op | faultRead _ _ _ op | alertMask _ _ _ op
  | setSampling _ _ _ op | trimSet _ _ _ op =>
    obtain rfl := Option.some.inj h
    exact ⟨[op], fun _ => rfl⟩
  | profileWrite _ _ arg ops =>
    obtain rfl := Option.some.inj h
    exact ⟨ops.toList.take (profileWriteWords arg), fun _ => rfl⟩
  | _ => exact nomatch h

/-- A named command but TAKE leaves a slot the other party holds as it was, save the issuer's unseen marks there. -/
theorem named_spares {c : Instr} {n : Named} {i : Fin 8} {s t : State} (hc : namedOf c = some n) (htake : n.cmd ≠ .take)
    (hi : (s.slot i).holder = otherParty n.party) (hexec : exec c s = .next t) :
    (s.slot i).OnlyMarksCleared n.party (t.slot i) := by
  obtain ⟨ops, hcommand⟩ := exec_of_named hc
  rw [hcommand] at hexec
  cases h : s.held with
  | true =>
    obtain rfl := Host.Outcome.next.inj ((State.live_of_held _ h).symm.trans hexec)
    exact .refl _ _
  | false =>
    rw [State.command_of_not_held _ _ _ _ h] at hexec
    obtain rfl := Host.Outcome.next.inj hexec
    rw [State.slot_answer]
    by_cases hread : n.cmd = .faultRead
    · rw [hread]
      exact cmdFaultRead_spares hi n.target n.arg _
    · rw [sparesSlotsOf_act s n.party n.target htake hread n.arg ops i hi]
      exact .refl _ _

/-- Settles O15: every command's work stays with the slots its issuer holds, FAULT-READ's clearing of marks apart. -/
theorem nonHolderChangesOnlyItsOwnMarks : Obligations.NonHolderChangesOnlyItsOwnMarks := by
  intro c n i s t hc htake hi hexec
  have h := named_spares hc htake hi hexec
  obtain ⟨p, cmd, target, arg⟩ := n
  cases p <;> exact h

end Sys2Proof.Machine
end

section
/-!
PROOFS. The alert lines and the rack's alert summary follow the unmasked unseen marks (O28).
-/

namespace Sys2Proof.Machine

/-! ## Marks and masks -/

/-- Marks stand out past a mask exactly when some kind is marked and unmasked. -/
theorem unmasked_iff {n : Nat} (marks mask : BitVec n) :
    (marks &&& ~~~mask) ≠ 0 ↔ ∃ k : Fin n, marks.getLsbD k = true ∧ mask.getLsbD k = false := by
  constructor
  · intro h
    by_contra hnone
    push Not at hnone
    refine h (BitVec.eq_of_getLsbD_eq fun k hk => ?_)
    have hk' := hnone ⟨k, hk⟩
    cases hm : marks.getLsbD k <;> simp_all
  · rintro ⟨k, hmark, hmask⟩ h
    have hbit := congrArg (BitVec.getLsbD · k.val) h
    rw [BitVec.getLsbD_and, BitVec.getLsbD_not, hmark, hmask] at hbit
    simp at hbit

theorem State.slotAlert_iff (s : State) (p : Party) (i : Fin 8) :
    s.slotAlert p i = true ↔
      ∃ k : Fin 7, ((s.slot i).faults.unseen p).getLsbD k = true ∧ (s.mask p).slotKinds.getLsbD k = false := by
  rw [State.slotAlert, bne_iff_ne, unmasked_iff]

theorem State.partAlert_iff (s : State) (p : Party) :
    s.partAlert p = true ↔
      ∃ k : Fin 5, (s.partFaults.unseen p).getLsbD k = true ∧ (s.mask p).partKinds.getLsbD k = false := by
  rw [State.partAlert, bne_iff_ne, unmasked_iff]

/-- A port's alert line: the part is not held, and a slot or the part alerts the port (R171, R183). -/
theorem State.alertLine_iff (s : State) (p : Party) :
    s.alertLine p = true ↔ s.held = false ∧ ((∃ i, s.slotAlert p i = true) ∨ s.partAlert p = true) := by
  simp [State.alertLine, or_comm]

/-! ## The alert summary -/

/-- Bits gathered one after another into a byte. -/
theorem getLsbD_foldl_twoPow (test : Fin 8 → Bool) (is : List (Fin 8)) (acc : Byte) (j : Fin 8) :
    (is.foldl (fun acc i => acc ||| (if test i then BitVec.twoPow 8 i.val else 0)) acc).getLsbD j =
      (acc.getLsbD j || (decide (j ∈ is) && test j)) := by
  induction is generalizing acc with
  | nil => simp
  | cons i is ih =>
    rw [List.foldl_cons, ih, BitVec.getLsbD_or]
    by_cases hij : j = i
    · subst hij
      cases test j <;> simp
    · have hval : j.val ≠ i.val := fun h => hij (Fin.ext h)
      cases test i <;> simp [hij, hval]

/-- Bit n of the alert summary is slot n's alert of the rack (R175). -/
theorem State.getLsbD_alertSummary (s : State) (i : Fin 8) : s.alertSummary.getLsbD i = s.slotAlert .rack i := by
  rw [State.alertSummary, getLsbD_foldl_twoPow]
  simp

/-- Settles O28: a line and a bit of the summary are the alerts of `State.slotAlert` and `State.partAlert`, each of which
asks for a marked and unmasked kind. -/
theorem alertLinesFollowUnmaskedMarks : Obligations.AlertLinesFollowUnmaskedMarks := by
  refine fun s => ⟨fun p => ?_, fun i => ?_⟩
  · simp only [State.alertLine_iff, State.slotAlert_iff, State.partAlert_iff]
  · rw [State.getLsbD_alertSummary, State.slotAlert_iff]
    rfl

end Sys2Proof.Machine
end

section
/-!
PROOFS. FAULT-READ reports the marks as they stood, then clears what its mask names (O43).
-/

namespace Sys2Proof.Machine

/-! ## One kind's bit -/

/-- An occurrence sets the kind's bit of 12.5 in the flags and in both marks (R162). -/
theorem Slot.raise_eq (sl : Slot) (k : SlotFault) :
    sl.raise k =
      { sl with
        faults :=
          { f := sl.faults.f ||| BitVec.twoPow 7 k.bit, uRack := sl.faults.uRack ||| BitVec.twoPow 7 k.bit
            uBench := sl.faults.uBench ||| BitVec.twoPow 7 k.bit } } := rfl

theorem Slot.flag_iff (sl : Slot) (k : SlotFault) : sl.flag k = true ↔ sl.faults.f &&& BitVec.twoPow 7 k.bit ≠ 0 := by
  have hbit : BitVec.twoPow 7 k.bit ≠ 0 := by cases k <;> decide
  rw [Slot.flag, Marks.flag, BitVec.and_twoPow]
  cases sl.faults.f.getLsbD k.bit
  · simp
  · simpa using hbit

/-! ## The report -/

theorem extractLsb'_eq_of_bitsOf {w : Word} {lo width : Nat} {v : BitVec width}
    (h : bitsOf w lo width = v.toNat % 2 ^ width) : w.extractLsb' lo width = v :=
  BitVec.eq_of_toNat_eq (h.trans (Nat.mod_eq_of_lt v.isLt))

/-- The flags and both parties' marks read back from a FAULT-READ report (12.6). -/
theorem Marks.word_fields {n : Nat} (hn : n ≤ 8) (m : Marks n) :
    m.word.extractLsb' 0 n = m.f ∧ m.word.extractLsb' 8 n = m.uRack ∧ m.word.extractLsb' 16 n = m.uBench := by
  refine ⟨extractLsb'_eq_of_bitsOf ?_, extractLsb'_eq_of_bitsOf ?_, extractLsb'_eq_of_bitsOf ?_⟩
  all_goals simp (disch := omega) [Marks.word, bitsOf_or, bitsOf_field_same, bitsOf_field_other]

/-! ## The clearing -/

/-- Marks once a party's read has cleared the kinds of a mask: its own unseen marks, and the flags where it may (R165). -/
def Marks.readBy {n : Nat} (m : Marks n) (p : Party) (mask : BitVec n) (clears : Prop) [Decidable clears] : Marks n :=
  { f := if clears then m.f &&& ~~~mask else m.f
    uRack := if p = .rack then m.uRack &&& ~~~mask else m.uRack
    uBench := if p = .bench then m.uBench &&& ~~~mask else m.uBench }

theorem Marks.clearMarks_eq {n : Nat} (m : Marks n) (p : Party) (mask : BitVec n) :
    m.clearMarks p mask = m.readBy p mask False := by
  cases p <;> rfl

theorem Marks.clearFlags_clearMarks {n : Nat} (m : Marks n) (p : Party) (mask : BitVec n) :
    (m.clearMarks p mask).clearFlags mask = m.readBy p mask True := by
  cases p <;> rfl

/-- FAULT-READ at a slot: the marks it clears, then the release of the withheld summary where that cleared CONV (R165,
R166). -/
theorem Slot.readFaults_eq (sl : Slot) (p : Party) (mask : BitVec 7) (clears : Prop) [Decidable clears] :
    sl.readFaults p mask (decide clears) =
      if clears ∧ mask.getLsbD 5 = true ∧ sl.faults.f.getLsbD 5 = true then
        { sl with faults := sl.faults.readBy p mask clears }.releaseWithheld
      else { sl with faults := sl.faults.readBy p mask clears } := by
  by_cases h : clears
  · simp [Slot.readFaults, Marks.clearFlags_clearMarks, Slot.flag, Marks.flag, SlotFault.bit, h, and_comm, Marks.readBy]
  · simp [Slot.readFaults, Marks.clearMarks_eq, h, Marks.readBy]

theorem Slot.releaseWithheld_of_none {sl : Slot} (h : sl.withheld = none) : sl.releaseWithheld = sl := by
  rw [Slot.releaseWithheld, h]

theorem Slot.releaseWithheld_of_some {sl : Slot} {m : Summary} (h : sl.withheld = some m) :
    sl.releaseWithheld = { sl with withheld := none }.push m.toRecord := by
  rw [Slot.releaseWithheld, h]

/-! ## The command -/

theorem isPart_slotField (i : Fin 8) : isPart (slotField i) = false := by revert i; decide

/-- A party's FAULT-READ of a slot clears flags: it holds the slot, and the slot does not stand aside (R165, R138). -/
abbrev State.clearsFlags (s : State) (p : Party) (i : Fin 8) : Prop :=
  (s.slot i).holder = p ∧ s.upperPaired i = false

/-- What FAULT-READ of a slot makes of the part. -/
def State.faultsRead (s : State) (p : Party) (i : Fin 8) (mask : BitVec 7) : State :=
  (s.restartHold p i).modSlot i fun sl => sl.readFaults p mask (decide (s.clearsFlags p i))

theorem cmdFaultRead_slot (p : Party) (i : Fin 8) (arg : Nibble) (op : Word) (s : State) :
    cmdFaultRead p (slotField i) arg op s =
      (s.faultsRead p i (op.extractLsb' 0 7), Reply.report [(s.slot i).faults.word]) := by
  have hclears : (decide ((s.slot i).holder = p) && !s.upperPaired i) = decide (s.clearsFlags p i) := by simp
  rw [cmdFaultRead, isPart_slotField, slotOf_slotField, State.faultsRead, ← hclears]
  rfl

theorem State.faultsRead_frame (s : State) (p : Party) (i : Fin 8) (mask : BitVec 7) :
    s.faultsRead p i mask = { s with slots := (s.faultsRead p i mask).slots } := by
  rw [State.faultsRead, State.modSlot, s.restartHold_frame p i]

/-- The other slots keep all but, where one of them governs the slot, the hold timer a bench read restarts (R150). -/
theorem State.slot_faultsRead_ne (s : State) (p : Party) {i j : Fin 8} (mask : BitVec 7) (hj : j ≠ i) :
    (s.faultsRead p i mask).slot j = { s.slot j with holdTimer := s.readHold p i j } := by
  rw [State.faultsRead, State.slot_modSlot_ne _ _ hj, State.slot_restartHold]

/-- The slot once its faults are read, the withheld summary apart. -/
def State.faultsCleared (s : State) (p : Party) (i : Fin 8) (mask : BitVec 7) : Slot :=
  { s.slot i with
    holdTimer := s.readHold p i i
    faults := (s.slot i).faults.readBy p mask (s.clearsFlags p i) }

theorem State.slot_faultsRead_self (s : State) (p : Party) (i : Fin 8) (mask : BitVec 7) :
    (s.faultsRead p i mask).slot i =
      if s.clearsFlags p i ∧ mask.getLsbD 5 = true ∧ (s.slot i).faults.f.getLsbD 5 = true then
        (s.faultsCleared p i mask).releaseWithheld
      else s.faultsCleared p i mask := by
  rw [State.faultsRead, State.slot_modSlot_self, State.slot_restartHold, Slot.readFaults_eq]
  rfl

theorem faultRead_slot_completes {s : State} (h : s.held = false) (p : Party) (i : Fin 8) (arg : Nibble) (op : Word) :
    ∃ t, exec (.faultRead p (slotField i) arg op) s = .next t
      ∧ s.Answered p .faultRead (slotField i) .ok [(s.slot i).faults.word] t
      ∧ (s.faultsRead p i (op.extractLsb' 0 7)).OnlyPorts t := by
  refine State.command_completes (r := Reply.report _) h .faultRead (cmdFaultRead_slot p i arg op s) ?_
  rw [s.faultsRead_frame p i]
  exact ⟨rfl, rfl, rfl⟩

/-- FAULT-READ of the part clears the named part flags and the issuer's marks (R165). -/
theorem cmdFaultRead_part (p : Party) (arg : Nibble) (op : Word) (s : State) :
    cmdFaultRead p 15 arg op s =
      ({ s with partFaults := s.partFaults.readBy p (op.extractLsb' 0 5) True }, Reply.report [s.partFaults.word]) := by
  rw [← Marks.clearFlags_clearMarks]
  rfl

theorem faultRead_part_completes {s : State} (h : s.held = false) (p : Party) (arg : Nibble) (op : Word) :
    ∃ t, exec (.faultRead p 15 arg op) s = .next t
      ∧ s.Answered p .faultRead 15 .ok [s.partFaults.word] t
      ∧ { s with partFaults := s.partFaults.readBy p (op.extractLsb' 0 5) True }.OnlyPorts t :=
  State.command_completes (r := Reply.report _) h .faultRead (cmdFaultRead_part p arg op s) ⟨rfl, rfl, rfl⟩

/-- Settles O43: each kind has its bit; a slot's read is `State.faultsRead`, whose slot is cleared, and released from
pending where CONV was; the part's read clears its five kinds. -/
theorem faultReadReportsThenClears : Obligations.FaultReadReportsThenClears := by
  refine ⟨fun sl k => ?_, fun p arg op s h => ⟨fun i => ?_, ?_⟩⟩
  · cases k <;> exact ⟨sl.raise_eq _, sl.flag_iff _⟩
  · obtain ⟨t, hexec, hans, ht⟩ := faultRead_slot_completes h p i arg op
    have hslot := (State.OnlyPorts.slot ht i).trans (s.slot_faultsRead_self p i _)
    obtain ⟨hf, hrack, hbench⟩ := (s.slot i).faults.word_fields (by omega)
    refine ⟨t, _, hexec, hans, hf, hrack, hbench, fun hkeeps => ?_, fun hreleases hnone => ?_,
      fun hreleases m hm => ?_, fun j hj => ?_, ?_⟩
    · exact hslot.trans (if_neg hkeeps)
    · rw [if_pos hreleases, Slot.releaseWithheld_of_none (sl := s.faultsCleared p i _) hnone] at hslot
      exact hslot
    · rw [if_pos hreleases, Slot.releaseWithheld_of_some (sl := s.faultsCleared p i _) hm] at hslot
      exact hslot
    · rw [State.OnlyPorts.slot ht, s.slot_faultsRead_ne p _ hj]
    · rw [ht, s.faultsRead_frame p i]
  · obtain ⟨t, hexec, hans, ht⟩ := faultRead_part_completes h p arg op
    obtain ⟨hf, hrack, hbench⟩ := s.partFaults.word_fields (by omega)
    refine ⟨t, _, hexec, hans, hf, hrack, hbench, ?_, ?_⟩
    · rw [ht]
      rfl
    · rw [ht]

end Sys2Proof.Machine
end

section
/-!
PROOFS. Rack frames are counted and handed to the assembler (O57): the assembler's outcomes at either port, then the bits
of RDO, then the two frames.
-/

namespace Sys2Proof.Machine

/-! ## Link faults -/

/-- A port's link fault is one bit of the part faults, with both marks (R162, R163). -/
theorem State.raiseLink_eq (s : State) (p : Party) :
    s.raiseLink p = { s with partFaults := raised s.partFaults (if p = .rack then 0b01000 else 0b10000) } := by
  cases p <;> rfl

theorem State.abandonPartial_eq (s : State) (p : Party) : s.abandonPartial p = s.linkBroken p := by
  unfold State.abandonPartial State.linkBroken
  rw [State.raiseLink_eq, State.modPort_partFaults]
  rfl

theorem State.linkBroken_frame (s : State) (p : Party) :
    s.linkBroken p =
      { s with
        rack := (s.linkBroken p).rack, bench := (s.linkBroken p).bench
        partFaults := (s.linkBroken p).partFaults } := by
  unfold State.linkBroken
  split
  · rfl
  · cases p <;> rfl

theorem State.port_linkBroken_other (s : State) (p : Party) :
    (s.linkBroken p).port (otherParty p) = s.port (otherParty p) := by
  unfold State.linkBroken
  split
  · rfl
  · cases p <;> rfl

/-! ## Codes and rows -/

theorem Cmd.code_of_ofCode {code : Byte} {c : Cmd} (h : Cmd.ofCode code = some c) : c.code = code := by
  have hall : ∀ b : Byte, (Cmd.ofCode b).all (fun d => d.code == b) = true := by decide
  have hcode := hall code
  rw [h] at hcode
  exact eq_of_beq hcode

theorem Cmd.ofCode_eq_none {code : Byte} (h : ∀ c : Cmd, c.code ≠ code) : Cmd.ofCode code = none := by
  cases hc : Cmd.ofCode code with
  | none => rfl
  | some c => exact absurd (Cmd.code_of_ofCode hc) (h c)

theorem profileWriteWords_le (arg : Nibble) : profileWriteWords arg ≤ 30 := by
  unfold profileWriteWords
  split <;> omega

/-- The words a PROFILE-WRITE row carries begin with the command's own. -/
theorem take_ofFn_getD {words : List Word} (h : words.length ≤ 30) :
    (Vector.ofFn fun k : Fin 30 => words.getD k.val 0).toList.take words.length = words := by
  apply List.ext_getElem
  · simpa using h
  · intro n hn hn'
    simp [hn']

/-- The row of a command with all its operand words is that command, taken at the party's port (R181). -/
theorem exec_rowOf {c : Cmd} {arg : Nibble} {words : List Word} (h : words.length = c.operandWords arg) (p : Party)
    (target : Nibble) (s : State) :
    exec (rowOf p c target arg words) s = s.command p c target (Cmd.act c p target arg words) := by
  cases c with
  | profileWrite =>
    have hwords : words.length = profileWriteWords arg := h
    have hle := profileWriteWords_le arg
    show s.command p .profileWrite target (cmdProfileWrite p target arg (List.take (profileWriteWords arg) _)) = _
    rw [← hwords, take_ofFn_getD (by omega)]
    rfl
  | _ => rfl

theorem exec_rowOf_of_not_held {s : State} (hheld : s.held = false) {c : Cmd} {arg : Nibble} {words : List Word}
    (h : words.length = c.operandWords arg) (p : Party) (target : Nibble) :
    exec (rowOf p c target arg words) s = .next (s.taken p c target (Cmd.act c p target arg words)) := by
  rw [exec_rowOf h]
  exact State.live_of_not_held _ hheld

/-! ## The assembler -/

/-- What a header handed to a port's assembler brings about (R180, R182). -/
theorem State.headerAssembles {s : State} (hheld : s.held = false) (p : Party) (h : HeaderWord) :
    HeaderAssembles p (h.extractLsb' 8 8) (h.extractLsb' 4 4) (h.extractLsb' 0 4) s (.next (s.assembleHeader p h)) := by
  have hbroken : (s.linkBroken p).held = false := by
    rw [s.linkBroken_frame p]
    exact hheld
  unfold State.assembleHeader
  rw [State.abandonPartial_eq]
  refine ⟨fun c hc hnone => ?_, fun c hc hsome => ?_, fun hunknown => ?_⟩
  · rw [exec_rowOf_of_not_held hbroken (words := []) hnone.symm, ← hc]
    simp only [awaitedBy, Cmd.ofCode_code, hnone, if_true, State.takeAssembled]
  · rw [← hc]
    simp only [awaitedBy, Cmd.ofCode_code, hsome, if_false]
  · have hcode := Cmd.ofCode_eq_none hunknown
    simp only [awaitedBy, hcode, if_true, State.takeAssembled]
    refine ⟨_, rfl, State.port_answer_self .., ?_, ?_, State.onlyPorts_answer ..⟩
    · rw [State.port_answer_other, State.port_linkBroken_other]
    · rw [State.bus_answer, s.linkBroken_frame p]

/-- What a data word handed to a port's assembler brings about (R180). -/
theorem State.dataAssembles {s : State} {p : Party} (hheld : s.held = false) (hassembly : (s.port p).assembly = true)
    (w : Word) : DataAssembles p w s (.next (s.assembleData p w)) := by
  refine ⟨fun hzero => ?_, fun pc hpc => ⟨fun n hn => ?_, fun hone c hc => ?_⟩⟩
  · simp [State.assembleData, hzero]
  · simp [State.assembleData, hpc, hn]
  · have hlen : (pc.words ++ [w]).length = c.operandWords pc.arg := by
      have := Port.assembly_some (w := w) hassembly hpc hone
      rwa [← hc, awaitedBy, Cmd.ofCode_code] at this
    have hcleared : (s.modPort p Port.cleared).held = false := by cases p <;> exact hheld
    rw [exec_rowOf_of_not_held hcleared hlen]
    simp only [State.assembleData, hpc, hone, State.takeAssembled, ← hc, Cmd.ofCode_code, if_true]
    rfl

/-! ## The bits of RDO -/

/-- A bit vector's bits, the highest first. -/
def bitsHighFirst {n : Nat} (b : BitVec n) : List Bool := (List.range n).map b.getMsbD

theorem bitsHighFirst_append {n m : Nat} (a : BitVec n) (b : BitVec m) :
    bitsHighFirst (a ++ b) = bitsHighFirst a ++ bitsHighFirst b := by
  unfold bitsHighFirst
  rw [List.range_add, List.map_append, List.map_map]
  congr 1
  · refine List.map_congr_left fun k hk => ?_
    simp [BitVec.getMsbD_append, List.mem_range.mp hk]
  · refine List.map_congr_left fun k _ => ?_
    simp [BitVec.getMsbD_append]

theorem byteBits_eq (b : Byte) : byteBits b = bitsHighFirst b := by
  refine List.map_congr_left fun k hk => ?_
  simp [BitVec.getMsbD, List.mem_range.mp hk]

theorem wordBits_eq (w : Word) : wordBits w = bitsHighFirst w := by
  refine List.map_congr_left fun k hk => ?_
  simp [BitVec.getMsbD, List.mem_range.mp hk]

/-- RDO during a header frame is one word of 17 bits, sent high bit first (R175). -/
theorem State.headerRdo_eq (s : State) :
    s.headerRdo = bitsHighFirst ((1#1) ++ (s.alertSummary ++ prevStatusCode s.rack.prevStatus) : BitVec 17) := by
  rw [State.headerRdo, byteBits_eq, byteBits_eq, ← bitsHighFirst_append]
  exact (bitsHighFirst_append (1#1) _).symm

theorem State.dataRdo_eq (s : State) :
    s.dataRdo = bitsHighFirst (match s.rack.replies with
      | [] => (0 : BitVec 33)
      | w :: _ => ((1#1) ++ w : BitVec 33)) := by
  unfold State.dataRdo
  cases s.rack.replies with
  | nil => decide
  | cons w _ =>
    rw [wordBits_eq]
    exact (bitsHighFirst_append (1#1) w).symm

/-! ## The frames -/

section
variable {s : State} {clocks : Nat} {before : Bool}

theorem State.rackHeader_none (h : clocks = 0 ∨ before = true) (content : HeaderWord) :
    s.rackHeader clocks content before = s := if_pos h

theorem State.rackHeader_broken (hsome : clocks ≠ 0) (hcount : clocks ≠ 17) (content : HeaderWord) :
    s.rackHeader clocks content false = (s.driveRdo s.headerRdo clocks).raiseLink .rack := by
  simp [State.rackHeader, hsome, hcount]

theorem State.rackHeader_whole (content : HeaderWord) :
    s.rackHeader 17 content false = (s.driveRdo s.headerRdo 17).assembleHeader .rack content := rfl

theorem State.rackData_none (h : clocks = 0 ∨ before = true) (content : Word) :
    s.rackData clocks content before = s := if_pos h

theorem State.rackData_broken (hsome : clocks ≠ 0) (hcount : clocks ≠ 33) (content : Word) :
    s.rackData clocks content false = (s.driveRdo s.dataRdo clocks).raiseLink .rack := by
  simp [State.rackData, hsome, hcount]

theorem State.rackData_whole (content : Word) :
    s.rackData 33 content false =
      ((s.driveRdo s.dataRdo 33).modPort .rack fun port => { port with replies := port.replies.tail }).assembleData
        .rack content := rfl

end

/-- Settles O57: a frame is none, broken or whole by its count of clocks; a whole one goes to the rack port's assembler. -/
theorem rackFramesAreCountedAndHandedOn : Obligations.RackFramesAreCountedAndHandedOn := by
  intro clocks before s hheld
  have hheader (h : HeaderWord) : exec (.rackHeaderFrame clocks h before) s = .next (s.rackHeader clocks h before) :=
    State.live_of_not_held (fun u => u.rackHeader clocks h before) hheld
  have hdata (w : Word) : exec (.rackDataFrame clocks w before) s = .next (s.rackData clocks w before) :=
    State.live_of_not_held (fun u => u.rackData clocks w before) hheld
  refine ⟨fun h => ⟨fun hnone => ?_, fun hsome hcount hbefore => ?_, fun hcount hbefore => ?_⟩,
    fun w => ⟨fun hnone => ?_, fun hsome hcount hbefore => ?_, fun hcount hbefore hassembly => ?_⟩⟩
  · rw [hheader, State.rackHeader_none hnone]
  · subst hbefore
    rw [hheader, State.rackHeader_broken hsome hcount, State.raiseLink_eq, State.headerRdo_eq]
    rfl
  · subst hcount hbefore
    rw [hheader, State.rackHeader_whole, State.headerRdo_eq]
    refine State.headerAssembles ?_ .rack h
    exact hheld
  · rw [hdata, State.rackData_none hnone]
  · subst hbefore
    rw [hdata, State.rackData_broken hsome hcount, State.raiseLink_eq, State.dataRdo_eq]
    rfl
  · subst hcount hbefore
    rw [hdata, State.rackData_whole, State.dataRdo_eq]
    refine State.dataAssembles (p := .rack) ?_ ?_ w
    · exact hheld
    · exact hassembly

end Sys2Proof.Machine
end

section
/-!
PROOFS. Bench bus transactions follow their bytes (O58).
-/

namespace Sys2Proof.Machine

/-! ## Start and stop conditions -/

theorem Bus.midUnit_iff (b : Bus) : b.midUnit = true ↔ ∃ k unit, b = .writing (k :: unit) := by
  cases b with
  | writing unit => cases unit <;> simp [Bus.midUnit]
  | _ => simp [Bus.midUnit]

theorem State.endTransaction_of_midUnit {s : State} (h : s.bus.midUnit = true) (next : Bus) :
    s.endTransaction next = State.raiseLink { s with bus := next, benchLine := .released } .bench := if_pos h

theorem State.endTransaction_of_not_midUnit {s : State} (h : s.bus.midUnit = false) (next : Bus) :
    s.endTransaction next = { s with bus := next, benchLine := .released } := by
  simp [State.endTransaction, h]

/-- The row of a start or a stop condition ends the transaction. -/
theorem exec_endTransaction {s : State} (hheld : s.held = false) (stop : Bool) :
    exec (if stop then .benchStopCondition else .benchStartCondition) s =
      .next (s.endTransaction (if stop then .idle else .addressing)) := by
  cases stop
  · exact State.live_of_not_held (fun u => u.endTransaction .addressing) hheld
  · exact State.live_of_not_held (fun u => u.endTransaction .idle) hheld

/-! ## The address byte -/

section
variable {s : State} {b : Byte} (hbus : s.bus = .addressing)
include hbus

theorem State.addressByte_other (h : (b.extractLsb' 1 7 : BitVec 7) ≠ s.benchAddress) :
    s.addressByte b = { s with bus := .ignored, benchLine := .released } := by
  simp [State.addressByte, hbus, h]

theorem State.addressByte_own (h : (b.extractLsb' 1 7 : BitVec 7) = s.benchAddress) :
    s.addressByte b =
      { s with bus := if b.getLsbD 0 then .reading false 0 false else .writing [], benchLine := .acknowledged } := by
  simp [State.addressByte, hbus, h]

end

/-! ## Bytes where no unit has begun -/

section
variable {s : State} {b : Byte}

/-- Between units a byte is a kind byte, good or bad (R178). -/
theorem State.writeByte_betweenUnits (hbus : s.bus = .writing []) :
    s.writeByte b =
      if b = 0x01 ∨ b = 0x02 then { s with bus := .writing [b], benchLine := .acknowledged }
      else State.raiseLink { s with bus := .rejected, benchLine := .unacknowledged } .bench := by
  simp only [State.writeByte, hbus]

theorem State.writeByte_rejected (hbus : s.bus = .rejected) :
    s.writeByte b = { s with bus := .rejected, benchLine := .unacknowledged } := by
  simp [State.writeByte, hbus]

theorem State.writeByte_elsewhere (hbus : s.bus = .ignored ∨ s.bus = .idle) : s.writeByte b = s := by
  rcases hbus with hbus | hbus <;> simp [State.writeByte, hbus]

end

/-- Both rows of a written byte are that byte: whether it is a kind byte is the bus's to say (log entry 8). -/
theorem exec_writtenByte {s : State} (hheld : s.held = false) {b : Byte} {row : Instr}
    (hrow : row = .benchUnitByte b ∨ row = .badKindByte b) : exec row s = .next (s.writeByte b) := by
  rcases hrow with rfl | rfl <;> exact State.live_of_not_held (fun u => u.writeByte b) hheld

/-! ## The bytes of a read -/

section
variable {s : State} {n : Nat} (acked : Bool)

theorem State.readByte_holder (hbus : s.bus = .reading false n false) :
    s.readByte acked = { s with bus := .reading true n (!acked), benchLine := .sent s.holderByte } := by
  simp [State.readByte, hbus]

theorem State.readByte_empty (hbus : s.bus = .reading true n false) (hreplies : s.bench.replies = []) :
    s.readByte acked = { s with bus := .reading true 0 (!acked), holderByte := 0xFF, benchLine := .sent 0xFF } := by
  simp [State.readByte, hbus, hreplies]

/-- A byte of the head reply word, which is removed at its fourth (R179). -/
theorem State.readByte_word (hbus : s.bus = .reading true n false) {w : Word} {rest : List Word}
    (hreplies : s.bench.replies = w :: rest) :
    s.readByte acked =
      { s with
        bus := .reading true (if 3 ≤ n then 0 else n + 1) (!acked)
        benchLine := .sent (w.extractLsb' (8 * n) 8)
        holderByte := w.extractLsb' (8 * n) 8
        bench := { s.bench with replies := if 3 ≤ n then rest else w :: rest } } := by
  simp only [State.readByte, hbus, hreplies, byteAt]
  split
  · rfl
  · rw [← hreplies]

theorem State.readByte_finished {sent : Bool} (hbus : s.bus = .reading sent n true) : s.readByte acked = s := by
  simp [State.readByte, hbus]

end

/-- Settles O58: each row is its part of the bus's work, taken where the part is not held. -/
theorem benchBusTransactionsFollowTheirBytes : Obligations.BenchBusTransactionsFollowTheirBytes := by
  intro s b acked hheld
  have haddress : exec (.benchAddressByte b) s = .next (s.addressByte b) :=
    State.live_of_not_held (fun u => u.addressByte b) hheld
  have hread : exec (.benchReadByte acked) s = .next (s.readByte acked) :=
    State.live_of_not_held (fun u => u.readByte acked) hheld
  refine ⟨fun stop => ⟨fun k unit hbus => ?_, fun hbus => ?_⟩,
    fun hbus => ⟨fun hother => ?_, fun hown hwrite => ?_, fun hown hreads => ?_⟩,
    fun row hrow => ⟨fun hbus hkind => ?_, fun hbus hheader hdata => ?_, fun hbus => ?_, fun hbus => ?_⟩,
    fun n hbus => ?_, fun n hbus hn => ⟨fun hempty => ?_, fun w rest hreplies => ?_⟩, fun sent n hbus => ?_⟩
  · have hmid : s.bus.midUnit = true := s.bus.midUnit_iff.mpr ⟨k, unit, hbus⟩
    rw [exec_endTransaction hheld, State.endTransaction_of_midUnit hmid, State.raiseLink_eq]
    rfl
  · have hmid : s.bus.midUnit = false := by
      rw [← Bool.not_eq_true, Bus.midUnit_iff]
      rintro ⟨k, unit, h⟩
      exact hbus k unit h
    rw [exec_endTransaction hheld, State.endTransaction_of_not_midUnit hmid]
  · rw [haddress, State.addressByte_other hbus hother]
  · rw [haddress, State.addressByte_own hbus hown, hwrite]
    rfl
  · rw [haddress, State.addressByte_own hbus hown, hreads]
    rfl
  · rw [exec_writtenByte hheld hrow, State.writeByte_betweenUnits hbus, if_pos hkind]
  · rw [exec_writtenByte hheld hrow, State.writeByte_betweenUnits hbus, if_neg (not_or.mpr ⟨hheader, hdata⟩),
      State.raiseLink_eq]
    rfl
  · rw [exec_writtenByte hheld hrow, State.writeByte_rejected hbus]
  · rw [exec_writtenByte hheld hrow, State.writeByte_elsewhere hbus]
  · rw [hread, State.readByte_holder acked hbus]
  · rw [hread, State.readByte_empty acked hbus hempty]
  · have hlast : 3 ≤ n ↔ n = 3 := by omega
    rw [hread, State.readByte_word acked hbus hreplies]
    simp only [hlast]
  · rw [hread, State.readByte_finished acked hbus]

end Sys2Proof.Machine
end

section
/-!
PROOFS. The codes of commands and statuses, the status word, and the words of a record (O25).
-/

namespace Sys2Proof.Machine

/-! ## Codes -/

theorem Cmd.operandWords_eq (c : Cmd) (arg : Nibble) :
    c.operandWords arg =
      if c = .drive ∨ c = .setConv ∨ c = .holdTime ∨ c = .faultRead ∨ c = .alertMask ∨ c = .setSampling ∨ c = .trimSet
      then 1
      else if c = .profileWrite ∧ 1 ≤ arg.toNat ∧ arg.toNat ≤ 12 then 6 + 2 * arg.toNat
      else 0 := by
  cases c <;> simp [Cmd.operandWords, profileWriteWords]

/-! ## The status word -/

theorem statusWord_fields (st : Status) (code : Byte) (target : Nibble) (count : Nat) :
    bitsOf (statusWord st code target count) 0 8 = st.code.toNat % 2 ^ 8
      ∧ bitsOf (statusWord st code target count) 8 8 = code.toNat % 2 ^ 8
      ∧ bitsOf (statusWord st code target count) 16 4 = target.toNat % 2 ^ 4
      ∧ bitsOf (statusWord st code target count) 20 6 = count % 2 ^ 6
      ∧ bitsOf (statusWord st code target count) 26 6 = 0 := by
  simp [statusWord, bitsOf_or, bitsOf_field_same, bitsOf_field_other]

/-! ## The words of a record -/

/-- The first word of every record (12.7). -/
def Record.head (r : Record) : Word :=
  field 3 0 r.body.kindCode ||| field 1 3 (partyCode r.holder) ||| flagAt 4 r.afterLoss ||| field 4 8 r.profile.val
    ||| field 16 16 r.cycle

theorem Record.words_eq (r : Record) :
    r.words = r.head :: field 32 0 r.k :: field 16 0 r.current :: r.body.words := rfl

theorem Record.head_fields (r : Record) :
    bitsOf r.head 0 3 = r.body.kindCode % 8 ∧ bitsOf r.head 3 1 = partyCode r.holder % 2
      ∧ bitsOf r.head 4 1 = r.afterLoss.toNat % 2 ∧ bitsOf r.head 8 4 = r.profile.val % 16
      ∧ bitsOf r.head 16 16 = r.cycle % 65536 := by
  simp [Record.head, flagAt, bitsOf_or, bitsOf_field_same, bitsOf_field_other]

theorem tripWord_fields (level current code : Nat) :
    let w := field 16 0 level ||| field 14 16 current ||| field 2 30 code
    bitsOf w 0 16 = level % 65536 ∧ bitsOf w 16 14 = current % 16384 ∧ bitsOf w 30 2 = code % 4 := by
  simp [bitsOf_or, bitsOf_field_same, bitsOf_field_other]

theorem sigfailWord_fields (stage kind cause : Nat) (known : Bool) :
    let w := field 4 0 stage ||| field 2 4 kind ||| field 2 8 cause ||| flagAt 15 known
    bitsOf w 0 4 = stage % 16 ∧ bitsOf w 4 2 = kind % 4 ∧ bitsOf w 8 2 = cause % 4
      ∧ bitsOf w 15 1 = known.toNat % 2 := by
  simp [flagAt, bitsOf_or, bitsOf_field_same, bitsOf_field_other]

/-- The first own word of a SUMMARY record, its drift as the number that its signed field carries. -/
theorem summaryWord_fields (verdict : Nat) (drifted last invMean invCharge inexact known : Bool) (drift : Int) :
    let w := field 2 0 verdict ||| flagAt 4 drifted ||| flagAt 5 last ||| flagAt 6 invMean ||| flagAt 7 invCharge
      ||| flagAt 8 inexact ||| flagAt 15 known ||| signedAt 16 drift
    bitsOf w 0 2 = verdict % 4 ∧ bitsOf w 4 1 = drifted.toNat % 2 ∧ bitsOf w 5 1 = last.toNat % 2
      ∧ bitsOf w 6 1 = invMean.toNat % 2 ∧ bitsOf w 7 1 = invCharge.toNat % 2 ∧ bitsOf w 8 1 = inexact.toNat % 2
      ∧ bitsOf w 15 1 = known.toNat % 2 ∧ bitsOf w 16 16 = (BitVec.ofInt 16 drift).toNat % 65536 := by
  simp [flagAt, signedAt_eq_field, bitsOf_or, bitsOf_field_same, bitsOf_field_other]

/-- Settles O25: the codes row by row; each word is read back field by field. -/
theorem statusAndRecordWordsCarryTheirFields : Obligations.StatusAndRecordWordsCarryTheirFields := by
  refine ⟨fun c => by cases c <;> rfl, Cmd.operandWords_eq, fun st => by cases st <;> rfl,
    fun st code target count hcount => ?_, fun r => ?_⟩
  · obtain ⟨hstatus, hcode, htarget, hwords, hrest⟩ := statusWord_fields st code target count
    exact ⟨extractLsb'_eq_of_bitsOf hstatus, extractLsb'_eq_of_bitsOf hcode, extractLsb'_eq_of_bitsOf htarget,
      hwords.trans (Nat.mod_eq_of_lt (by omega)), hrest⟩
  obtain ⟨hkind, hholder, hloss, hprofile, hcycle⟩ := r.head_fields
  refine ⟨_, _, _, _, r.words_eq, hkind.trans ?_, ?_, getLsbD_eq_of_bitsOf hloss,
    hprofile.trans (Nat.mod_eq_of_lt r.profile.isLt), hcycle, toNat_word _, bitsOf_field_same (by omega) _,
    fun ch current level hbody => ?_, fun stage kind cause m hbody => ?_, fun threshold hbody => ?_,
    fun verdict drifted last invMean invCharge inexact n peak mean charge drift hbody => ?_⟩
  · cases r.body <;> rfl
  · rw [getLsbD_eq_bitsOf, hholder]
    cases r.holder <;> decide
  · obtain ⟨hlevel, hcurrent, hch⟩ := tripWord_fields level current ch.code
    rw [hbody]
    exact ⟨_, rfl, hlevel, hcurrent, hch.trans (by cases ch <;> rfl)⟩
  · obtain ⟨hstage, hstageKind, hcause, hknown⟩ := sigfailWord_fields stage kind.code cause.code m.isSome
    rw [hbody]
    exact ⟨_, _, rfl, hstage, hstageKind.trans (by cases kind <;> rfl), hcause.trans (by cases cause <;> rfl),
      getLsbD_eq_of_bitsOf hknown, bitsOf_field_same (by omega) _⟩
  · rw [hbody]
    exact ⟨_, rfl, bitsOf_field_same (by omega) threshold⟩
  · obtain ⟨hverdict, hdrifted, hlast, hmean, hcharge, hinexact, hknown, hdrift⟩ :=
      summaryWord_fields verdict.code drifted last invMean invCharge inexact drift.isSome (drift.getD 0)
    have hsigned := hdrift.trans (Nat.mod_eq_of_lt (BitVec.ofInt 16 (drift.getD 0)).isLt)
    rw [hbody]
    refine ⟨_, _, _, _, rfl, hverdict.trans (by cases verdict <;> rfl), getLsbD_eq_of_bitsOf hdrifted,
      getLsbD_eq_of_bitsOf hlast, getLsbD_eq_of_bitsOf hmean, getLsbD_eq_of_bitsOf hcharge,
      getLsbD_eq_of_bitsOf hinexact, getLsbD_eq_of_bitsOf hknown, fun d hd hlow hhigh => ?_, fun hnone => ?_,
      toNat_word n, bitsOf_halves_low .., bitsOf_halves_high .., bitsOf_field_same (by omega) charge⟩
    · subst hd
      exact signedOf_of_bitsOf hsigned hlow (Int.lt_add_one_of_le hhigh)
    · subst hnone
      exact signedOf_of_bitsOf hsigned (by decide) (by decide)

end Sys2Proof.Machine
end

section
/-!
PROOFS. Bench units are handed to the assembler at their last byte (O59).
-/

namespace Sys2Proof.Machine

/-! ## The bytes of a unit -/

/-- The bench bus in a write transaction, the unit's last byte acknowledged. -/
def State.onUnit (s : State) (unit : List Byte) : State := { s with bus := .writing unit, benchLine := .acknowledged }

section
variable {s : State}

/-- The second byte of a header unit is collected. -/
theorem State.writeByte_headerLow (hbus : s.bus = .writing [0x01]) (b : Byte) :
    s.writeByte b = s.onUnit [0x01, b] := by
  simp [State.writeByte, State.onUnit, hbus]

/-- The third hands the header to the assembler. -/
theorem State.writeByte_headerHigh {lo : Byte} (hbus : s.bus = .writing [0x01, lo]) (hi : Byte) :
    s.writeByte hi = (s.onUnit []).assembleHeader .bench (hi ++ lo) := by
  simp [State.writeByte, State.onUnit, hbus]

/-- A byte of a data unit before its last is collected. -/
theorem State.writeByte_dataEarly {unit : List Byte} (hunit : unit.length < 3) (hbus : s.bus = .writing (0x02 :: unit))
    (b : Byte) : s.writeByte b = s.onUnit (0x02 :: (unit ++ [b])) := by
  match unit, hunit with
  | [], _ | [_], _ | [_, _], _ => simp [State.writeByte, State.onUnit, hbus]

theorem bytesJoined_assoc (b3 b2 b1 b0 : Byte) :
    (b3 ++ b2 ++ b1 ++ b0 : BitVec 32) = b3 ++ (b2 ++ (b1 ++ b0)) := by
  rw [BitVec.append_assoc, BitVec.append_assoc]
  rfl

/-- Its last hands the word to the assembler, the low byte first. -/
theorem State.writeByte_dataLast {b0 b1 b2 : Byte} (hbus : s.bus = .writing [0x02, b0, b1, b2]) (b3 : Byte) :
    s.writeByte b3 = (s.onUnit []).assembleData .bench (b3 ++ (b2 ++ (b1 ++ b0))) := by
  simp only [State.writeByte, hbus, bytesJoined_assoc]
  rfl

/-! ## Whole units -/

theorem State.completeUnit_betweenUnits (hbus : s.bus = .writing []) (bytes : List Byte) :
    s.completeUnit bytes = bytes.foldl State.writeByte s := by
  simp [State.completeUnit, Bus.restOfUnit, hbus]

theorem State.writeByte_kind (hbus : s.bus = .writing []) {k : Byte} (hk : k = 0x01 ∨ k = 0x02) :
    s.writeByte k = s.onUnit [k] := by
  rw [State.writeByte_betweenUnits hbus, if_pos hk]
  rfl

/-- A header unit that arrives whole is its three bytes, one after the other. -/
theorem State.completeUnit_wholeHeader (hbus : s.bus = .writing []) (h : HeaderWord) :
    s.completeUnit (headerBytes h) = (s.onUnit []).assembleHeader .bench h := by
  have hlow (a : Byte) : (s.onUnit [0x01]).writeByte a = s.onUnit [0x01, a] := State.writeByte_headerLow rfl a
  have hhigh (a b : Byte) : (s.onUnit [0x01, a]).writeByte b = (s.onUnit []).assembleHeader .bench (b ++ a) :=
    State.writeByte_headerHigh rfl b
  rw [State.completeUnit_betweenUnits hbus, headerBytes, List.foldl_cons, List.foldl_cons, List.foldl_cons,
    List.foldl_nil, State.writeByte_kind hbus (.inl rfl), hlow, hhigh, headerBytes_join]

/-- A data unit that arrives whole is its five. -/
theorem State.completeUnit_wholeData (hbus : s.bus = .writing []) (w : Word) :
    s.completeUnit (dataBytes w) = (s.onUnit []).assembleData .bench w := by
  have hfirst (a : Byte) : (s.onUnit [0x02]).writeByte a = s.onUnit [0x02, a] :=
    State.writeByte_dataEarly (unit := []) (by simp) rfl a
  have hsecond (a b : Byte) : (s.onUnit [0x02, a]).writeByte b = s.onUnit [0x02, a, b] :=
    State.writeByte_dataEarly (unit := [a]) (by simp) rfl b
  have hthird (a b c : Byte) : (s.onUnit [0x02, a, b]).writeByte c = s.onUnit [0x02, a, b, c] :=
    State.writeByte_dataEarly (unit := [a, b]) (by simp) rfl c
  have hlast (a b c d : Byte) : (s.onUnit [0x02, a, b, c]).writeByte d =
      (s.onUnit []).assembleData .bench (d ++ (c ++ (b ++ a))) := State.writeByte_dataLast rfl d
  rw [State.completeUnit_betweenUnits hbus, dataBytes, List.foldl_cons, List.foldl_cons, List.foldl_cons,
    List.foldl_cons, List.foldl_cons, List.foldl_nil, State.writeByte_kind hbus (.inr rfl), hfirst, hsecond, hthird,
    hlast, ← bytesJoined_assoc, dataBytes_join]

end

/-- Settles O59: each row is the bytes it stands for, and the last of a unit hands it to the bench port's assembler. -/
theorem benchUnitsAreHandedToTheAssembler : Obligations.BenchUnitsAreHandedToTheAssembler := by
  intro s hheld on Header
  have hbyte (b : Byte) : exec (.benchUnitByte b) s = .next (s.writeByte b) := exec_writtenByte hheld (.inl rfl)
  have hunit (u : List Byte) : (s.onUnit u).held = false := hheld
  refine ⟨fun h => ⟨fun hbus => ?_, fun b hbus => ?_⟩, fun lo hi hbus => ?_,
    fun hassembly => ⟨fun w hbus => ?_, fun b0 b1 b2 b3 hbus => ?_⟩, fun b unit hlength hbus => ?_⟩
  · have hexec : exec (.benchHeaderUnit h) s = .next (s.completeUnit (headerBytes h)) :=
      State.live_of_not_held (fun u => u.completeUnit (headerBytes h)) hheld
    show HeaderAssembles _ _ _ _ _ _
    rw [hexec, State.completeUnit_wholeHeader hbus]
    exact State.headerAssembles (hunit []) .bench h
  · rw [hbyte, State.writeByte_headerLow hbus]
    rfl
  · show HeaderAssembles _ _ _ _ _ _
    rw [hbyte, State.writeByte_headerHigh hbus]
    exact State.headerAssembles (hunit []) .bench (hi ++ lo)
  · have hexec : exec (.benchDataUnit w) s = .next (s.completeUnit (dataBytes w)) :=
      State.live_of_not_held (fun u => u.completeUnit (dataBytes w)) hheld
    rw [hexec, State.completeUnit_wholeData hbus]
    exact State.dataAssembles (p := .bench) (hunit []) hassembly w
  · rw [hbyte, State.writeByte_dataLast hbus]
    exact State.dataAssembles (p := .bench) (hunit []) hassembly _
  · rw [hbyte, State.writeByte_dataEarly hlength hbus]
    rfl

end Sys2Proof.Machine
end

section
/-!
PROOFS. Refusals stand in their order and change nothing but the hold timer (O60): the header's BAD-ARG, the refusals
that stand before a slot's own conditions, and those conditions.
-/

namespace Sys2Proof.Machine

/-! ## The header's BAD-ARG -/

theorem isPart_eq_false {t : Nibble} (h : t.toNat ≠ 15) : isPart t = false := by revert h t; decide

theorem pairTarget_none {t : Nibble} (h : 4 ≤ t.toNat) : pairTarget t = none := by revert h t; decide

theorem modeOf_none {arg : Nibble} (h : 3 ≤ arg.toNat) : modeOf arg = none := by revert h arg; decide

theorem profileWriteWords_eq_zero {arg : Nibble} (h : arg.toNat = 0 ∨ 12 < arg.toNat) : profileWriteWords arg = 0 := by
  revert h arg; decide

section
variable {s : State} {p : Party} {target arg : Nibble}

theorem State.onHeldSlot_badTarget (h : 8 ≤ target.toNat) (act : Fin 8 → State → State × Reply) :
    s.onHeldSlot p target act = s.refuse .badArg := by
  rw [State.onHeldSlot, slotOf_none.mpr h]

theorem State.onAnySlot_badTarget (h : 8 ≤ target.toNat) (report : Fin 8 → State → Reply) :
    s.onAnySlot p target report = s.refuse .badArg := by
  rw [State.onAnySlot, slotOf_none.mpr h]

/-- The commands of a slot's holder share one acceptance (R145). -/
theorem act_ofHolder {c : Cmd} (hc : Cmd.ofHolder c = true) (ops : List Word) :
    ∃ f, ∀ s : State, Cmd.act c p target arg ops s = s.onHeldSlot p target f := by
  cases c with
  | bind | unbind | start | stop | ack | setConv | slotInit | evRetire | evClear =>
    exact ⟨_, fun s => by
      simp only [Cmd.act, cmdBind, cmdUnbind, cmdStart, cmdStop, cmdAck, cmdSetConv, cmdSlotInit, cmdEvRetire,
        cmdEvClear, State.onStack]
      rfl⟩
  | _ => exact Bool.noConfusion hc

theorem act_ofHolder_badTarget {c : Cmd} (hc : Cmd.ofHolder c = true) (h : 8 ≤ target.toNat) (ops : List Word) :
    Cmd.act c p target arg ops s = s.refuse .badArg := by
  obtain ⟨f, hf⟩ := act_ofHolder (p := p) (target := target) (arg := arg) hc ops
  rw [hf, State.onHeldSlot_badTarget h]

/-- A command whose header codes nothing is refused with the part as it was, before any other check (R3, R181). -/
theorem act_badHeader {c : Cmd} (h : Named.badHeader ⟨p, c, target, arg⟩ = true) (ops : List Word) :
    Cmd.act c p target arg ops s = s.refuse .badArg := by
  cases c with
  | bind | unbind | start | stop | ack | setConv | slotInit | evRetire | evClear =>
    exact act_ofHolder_badTarget rfl (of_decide_eq_true h) ops
  | status =>
    rw [Cmd.act, cmdStatus]
    exact State.onAnySlot_badTarget (of_decide_eq_true h) _
  | drive | release | trimSet | trimRead =>
    have ht : slotOf target = none := slotOf_none.mpr (of_decide_eq_true h)
    simp only [Cmd.act, cmdDrive, cmdRelease, cmdTrimSet, cmdTrimRead, ht]
  | summaryRead =>
    simp only [Named.badHeader, Bool.or_eq_true, decide_eq_true_eq] at h
    by_cases harg : 3 ≤ arg.toNat
    · exact if_pos harg
    · exact (if_neg harg).trans (State.onAnySlot_badTarget (h.resolve_right harg) _)
  | take =>
    simp only [Named.badHeader, Bool.or_eq_true, decide_eq_true_eq] at h
    simp only [Cmd.act, cmdTake]
    cases ht : slotOf target with
    | none => rfl
    | some i => exact if_pos (h.resolve_left fun h8 => by simp [slotOf_none.mpr h8] at ht)
  | evPeek =>
    simp only [Named.badHeader, Bool.or_eq_true, decide_eq_true_eq] at h
    simp only [Cmd.act, cmdEvPeek]
    cases ha : slotOf arg with
    | none => rfl
    | some depth => exact State.onAnySlot_badTarget (h.resolve_right fun h8 => by simp [slotOf_none.mpr h8] at ha) _
  | evFree =>
    simp only [Named.badHeader, Bool.or_eq_true, decide_eq_true_eq] at h
    simp only [Cmd.act, cmdEvFree]
    cases ha : slotOf arg with
    | none => rfl
    | some depth => exact State.onHeldSlot_badTarget (h.resolve_right fun h8 => by simp [slotOf_none.mpr h8] at ha) _
  | faultRead =>
    simp only [Named.badHeader, Bool.and_eq_true, decide_eq_true_eq] at h
    simp [Cmd.act, cmdFaultRead, isPart_eq_false h.2, slotOf_none.mpr h.1]
  | holdTime | alertMask | partStatus | setSampling | trimProgram | deviceReset =>
    have ht : isPart target = false := isPart_eq_false (of_decide_eq_true h)
    simp [Cmd.act, cmdHoldTime, cmdAlertMask, cmdPartStatus, cmdSetSampling, cmdTrimProgram, cmdDeviceReset, ht]
  | profileWrite =>
    simp only [Named.badHeader, Bool.or_eq_true, decide_eq_true_eq] at h
    have hzero : arg.toNat = 0 ∨ 12 < arg.toNat := h.imp_left fun e => by simp [e]
    exact if_pos (profileWriteWords_eq_zero hzero)
  | profileRead => exact Bool.noConfusion h
  | pair =>
    simp only [Named.badHeader, Bool.or_eq_true, decide_eq_true_eq] at h
    rcases h with h | h
    · simp [Cmd.act, cmdPair, pairTarget_none h]
    · simp [Cmd.act, cmdPair, modeOf_none h]

end

/-! ## NOT-PERMITTED, PAIRED, NOT-HOLDER, and TAKE's BUSY -/

section
variable {s : State} {p : Party} {i : Fin 8}

theorem State.onHeldSlot_paired (h : s.upperPaired i = true) (act : Fin 8 → State → State × Reply) :
    s.onHeldSlot p (slotField i) act = s.refuse .paired := by
  simp [State.onHeldSlot, h]

theorem State.onHeldSlot_notHolder (h : s.upperPaired i = false) (hp : (s.slot i).holder ≠ p)
    (act : Fin 8 → State → State × Reply) : s.onHeldSlot p (slotField i) act = s.refuse .notHolder := by
  simp [State.onHeldSlot, h, hp]

/-- An EV-FREE whose header is good names a depth (R114). -/
theorem evFree_depth {target arg : Nibble} (hheader : Named.badHeader ⟨p, .evFree, target, arg⟩ = false) :
    ∃ depth, slotOf arg = some depth := by
  refine Option.ne_none_iff_exists'.mp fun e => ?_
  simp [Named.badHeader, slotOf_none.mp e] at hheader

/-- EV-FREE, past its header's check, shares that acceptance too. -/
theorem act_evFree {target arg : Nibble} (hheader : Named.badHeader ⟨p, .evFree, target, arg⟩ = false)
    (ops : List Word) : ∃ f, ∀ s : State, Cmd.act .evFree p target arg ops s = s.onHeldSlot p target f := by
  obtain ⟨depth, hdepth⟩ := evFree_depth hheader
  exact ⟨_, fun s => by
    simp only [Cmd.act, cmdEvFree, hdepth, State.onStack]
    rfl⟩

theorem take_argument {target arg : Nibble} (hheader : Named.badHeader ⟨p, .take, target, arg⟩ = false) :
    ¬ 2 ≤ arg.toNat := by
  simp only [Named.badHeader, Bool.or_eq_false_iff, decide_eq_false_iff_not] at hheader
  exact hheader.2

/-- The rack takes and gives back no slot (R147, R153). -/
theorem act_notPermitted {c : Cmd} {target arg : Nibble} (hc : c = .take ∨ c = .release)
    (hheader : Named.badHeader ⟨.rack, c, target, arg⟩ = false) (ops : List Word) :
    Cmd.act c .rack target arg ops s = s.refuse .notPermitted := by
  obtain ⟨j, hj⟩ : ∃ j, slotOf target = some j := by
    refine Option.ne_none_iff_exists'.mp fun e => ?_
    rcases hc with rfl | rfl <;> simp [Named.badHeader, slotOf_none.mp e] at hheader
  rcases hc with rfl | rfl
  · have harg := take_argument hheader
    simp [Cmd.act, cmdTake, hj, harg]
  · simp [Cmd.act, cmdRelease, hj]

theorem cmdTake_paired {arg : Nibble} (harg : ¬ 2 ≤ arg.toNat) (hup : s.upperPaired i = true) :
    cmdTake .bench (slotField i) arg s = s.refuse .paired := by
  simp [cmdTake, harg, hup]

/-- A TAKE that the slot's state and the preempt choice do not allow (R147). -/
theorem cmdTake_busy {arg : Nibble} (harg : ¬ 2 ≤ arg.toNat) (hup : s.upperPaired i = false)
    (hrack : (s.slot i).holder = .rack) (h : takeAllowed (s.slot i).active.state (arg == 1) = false) :
    cmdTake .bench (slotField i) arg s = s.refuse .busy := by
  rw [cmdTake, slotOf_slotField]
  simp only [if_neg harg, hup, hrack, h]
  rfl

theorem takeAllowed_eq_false {st : SlotState} {arg : Nibble}
    (h : st = .drain ∨ (arg = 0 ∧ (st = .runOn ∨ st = .runBleed ∨ st = .manual))) :
    takeAllowed st (arg == 1) = false := by
  rcases h with rfl | ⟨rfl, rfl | rfl | rfl⟩ <;> rfl

theorem cmdRelease_paired (arg : Nibble) (hup : s.upperPaired i = true) :
    cmdRelease .bench (slotField i) arg s = s.refuse .paired := by
  simp [cmdRelease, hup]

theorem cmdRelease_notHolder (arg : Nibble) (hup : s.upperPaired i = false) (hrack : (s.slot i).holder = .rack) :
    cmdRelease .bench (slotField i) arg s = s.refuse .notHolder := by
  simp [cmdRelease, hup, hrack]

end

/-! ## The slot's own conditions -/

/-- The conditions do not read the hold timer. -/
theorem State.Reaches.conditionRefusal_restartHold {s : State} {p : Party} {i : Fin 8} (h : s.Reaches p i) (n : Named) :
    (s.restartHold p i).conditionRefusal i n = s.conditionRefusal i n := by
  have hslot := h.slot_restartHold
  rw [State.restartHold_of_reaches h] at hslot ⊢
  unfold State.conditionRefusal
  rw [hslot]
  rfl

section
variable {s : State} {p : Party} {i : Fin 8} {arg : Nibble} {st : Status} (h : s.Reaches p i)
include h

/-- A holder's command that its slot's conditions refuse changes nothing but the hold timer. -/
theorem act_conditionRefusal {c : Cmd} (hc : s.conditionRefusal i ⟨p, c, slotField i, arg⟩ = some st)
    (ops : List Word) : Cmd.act c p (slotField i) arg ops s = (s.restartHold p i).reply st := by
  rw [← h.conditionRefusal_restartHold] at hc
  have hreach (f : Fin 8 → State → State × Reply) : s.onHeldSlot p (slotField i) f = f i (s.restartHold p i) :=
    State.onHeldSlot_reaches f h
  revert hc
  generalize s.restartHold p i = u at hreach ⊢
  intro hc
  cases c with
  | bind =>
    simp only [State.conditionRefusal] at hc
    rw [Cmd.act, cmdBind, hreach]
    split_ifs at hc with hbusy hempty
    · obtain rfl := Option.some.inj hc
      exact if_pos hbusy
    · obtain rfl := Option.some.inj hc
      simp [hbusy, ProfileRecord.isEmpty, List.length_eq_zero_iff.mp hempty]
  | unbind =>
    simp only [State.conditionRefusal] at hc
    rw [Cmd.act, cmdUnbind, hreach]
    split_ifs at hc with hrest
    obtain rfl := Option.some.inj hc
    cases hst : (u.slot i).active.state <;> simp_all
  | slotInit =>
    simp only [State.conditionRefusal] at hc
    rw [Cmd.act, cmdSlotInit, hreach]
    split_ifs at hc with hrest
    obtain rfl := Option.some.inj hc
    cases hst : (u.slot i).active.state <;> simp_all
  | start =>
    simp only [State.conditionRefusal] at hc
    rw [Cmd.act, cmdStart, hreach]
    split_ifs at hc with hpending hbusy hunbound hhold <;> obtain rfl := Option.some.inj hc
    · exact if_pos hpending
    · exact (if_neg hpending).trans (if_pos hbusy)
    · exact (if_neg hpending).trans ((if_neg hbusy).trans (if_pos hunbound))
    · have hshelf : u.shelfHold = true := (Bool.or_eq_true ..).mpr hhold
      exact (if_neg hpending).trans ((if_neg hbusy).trans ((if_neg hunbound).trans (if_pos hshelf)))
  | stop =>
    simp only [State.conditionRefusal] at hc
    rw [Cmd.act, cmdStop, hreach]
    split_ifs at hc with hrest hdrain <;> obtain rfl := Option.some.inj hc
    · rcases hrest with hst | hst <;> simp only [hst]
    · simp only [hdrain]
  | ack =>
    simp only [State.conditionRefusal] at hc
    rw [Cmd.act, cmdAck, hreach]
    split_ifs at hc with hidle hbusy hflag <;> obtain rfl := Option.some.inj hc
    · simp only [hidle]
    · cases hst : (u.slot i).active.state <;> simp_all
    · simp only [not_not.mp hbusy]
      exact if_pos ((Bool.or_eq_true ..).mpr hflag)
  | evRetire =>
    simp only [State.conditionRefusal] at hc
    rw [Cmd.act, cmdEvRetire, State.onStack, hreach]
    split_ifs at hc with hpending
    obtain rfl := Option.some.inj hc
    exact if_pos hpending
  | evClear =>
    simp only [State.conditionRefusal] at hc
    rw [Cmd.act, cmdEvClear, State.onStack, hreach]
    split_ifs at hc with hpending
    obtain rfl := Option.some.inj hc
    exact if_pos hpending
  | _ => exact nomatch hc

/-- EV-FREE finds a withheld summary (R96, R114). -/
theorem cmdEvFree_pending (hheader : Named.badHeader ⟨p, .evFree, slotField i, arg⟩ = false)
    (hwithheld : (s.slot i).withheld ≠ none) :
    cmdEvFree p (slotField i) arg s = (s.restartHold p i).reply .pending := by
  obtain ⟨depth, hdepth⟩ := evFree_depth hheader
  have hpending : ((s.restartHold p i).slot i).withheld.isSome = true := by
    rw [h.slot_restartHold]
    exact Option.isSome_iff_ne_none.mpr hwithheld
  simp only [cmdEvFree, hdepth, State.onStack, State.onHeldSlot_reaches _ h, if_pos hpending]

/-- A refusal for a condition of the slot: the hold timer has restarted, and nothing else has changed (R150). -/
theorem State.Reaches.command_refused {act : State → State × Reply} (c : Cmd)
    (hact : act s = (s.restartHold p i).reply st) :
    ∃ t, s.command p c (slotField i) act = .next t ∧ s.Answered p c (slotField i) st [] t
      ∧ t.slot i = { s.slot i with holdTimer := s.holdAfter p i } ∧ s.OnlySlot i t := by
  obtain ⟨t, hexec, hans, ht⟩ := State.command_replies (target := slotField i) h.1 c hact h.runsAt_restartHold.portsKept
  refine ⟨t, hexec, hans, ?_, h.onlySlot_restartHold.ports ht⟩
  rw [State.OnlyPorts.slot ht, h.slot_restartHold]

end

/-- Settles O60: each refusal is the command's own block refusing, with the part as it was or with the hold timer's
restart alone. -/
theorem refusalsStandInTheirOrder : Obligations.RefusalsStandInTheirOrder := by
  intro c n s hnamed hheld Plainly
  obtain ⟨ops, hexec⟩ := exec_of_named hnamed
  have hplain {st : Status} (hact : Cmd.act n.cmd n.party n.target n.arg ops s = s.refuse st) : Plainly st := by
    show ∃ t, exec c s = .next t ∧ s.RefusedPlainly n st t
    rw [hexec]
    exact State.command_refuses hheld n.cmd n.arg hact
  obtain ⟨p, cmd, target, arg⟩ := n
  refine ⟨fun hbad => hplain (act_badHeader hbad ops), ?_, ?_⟩
  · rintro hheader hcmd rfl
    exact hplain (act_notPermitted hcmd hheader ops)
  rintro i rfl hheader
  refine ⟨fun hcmd => ?_, ?_, fun st hreach hcondition => ?_⟩
  · obtain ⟨f, hf⟩ : ∃ f, ∀ s : State, Cmd.act cmd p (slotField i) arg ops s = s.onHeldSlot p (slotField i) f := by
      rcases hcmd with hcmd | rfl
      · exact act_ofHolder hcmd ops
      · exact act_evFree hheader ops
    exact ⟨fun hup => hplain ((hf s).trans (State.onHeldSlot_paired hup f)),
      fun hup hp => hplain ((hf s).trans (State.onHeldSlot_notHolder hup hp f))⟩
  · rintro hcmd rfl
    refine ⟨fun hup => ?_, ?_, ?_⟩
    · rcases hcmd with rfl | rfl
      · exact hplain (cmdTake_paired (take_argument hheader) hup)
      · exact hplain (cmdRelease_paired arg hup)
    · rintro hup hrack rfl
      exact hplain (cmdRelease_notHolder arg hup hrack)
    · rintro hup hrack rfl hstate
      exact hplain (cmdTake_busy (take_argument hheader) hup hrack (takeAllowed_eq_false hstate))
  · rw [hexec]
    rcases hcondition with ⟨-, hrefusal⟩ | ⟨rfl, hwithheld, rfl⟩
    · exact hreach.command_refused cmd (act_conditionRefusal hreach hrefusal ops)
    · exact hreach.command_refused .evFree (cmdEvFree_pending hreach hheader hwithheld)

end Sys2Proof.Machine
end

section
/-!
PROOFS. The queue: a step takes the command at its front (O1), and no command or event touches what waits (O2).
-/

namespace Sys2Proof.Machine

/-- Settles O1: with a command in front, a step does not look at what is due. -/
theorem stepTakesTheFrontCommand : Obligations.StepTakesTheFrontCommand := by
  intro c rest s h
  unfold step
  rw [h]

/-! ## Work at slots -/

/-- Work at a slot leaves the queue. -/
theorem State.WorksAt.pending {i : Fin 8} {s t : State} (h : State.WorksAt i s t) : t.pending = s.pending := by
  rw [h.2]

theorem State.OnlyPorts.pending {s t : State} (h : s.OnlyPorts t) : t.pending = s.pending := by rw [h]

section
variable (s : State) (i : Fin 8)

@[simp] theorem State.pending_releaseBinding : (s.releaseBinding i).pending = s.pending :=
  (s.worksAt_releaseBinding i).pending

@[simp] theorem State.pending_bindTo (q : Fin 16) : (s.bindTo i q).pending = s.pending := (s.worksAt_bindTo i q).pending

@[simp] theorem State.pending_beginOnPhase : (s.beginOnPhase i).pending = s.pending :=
  (s.worksAt_beginOnPhase i).pending

@[simp] theorem State.pending_abandonOnPhase (v : Verdict) : (s.abandonOnPhase i v).pending = s.pending := rfl

@[simp] theorem State.pending_enterDrain (x : DrainNext) : (s.enterDrain i x).pending = s.pending := rfl

@[simp] theorem State.pending_continueDrain (x : DrainNext) : (s.continueDrain i x).pending = s.pending := rfl

@[simp] theorem State.pending_clearRails : (s.clearRails i).pending = s.pending := rfl

@[simp] theorem State.pending_restartHold (p : Party) : (s.restartHold p i).pending = s.pending := by
  rw [s.restartHold_frame p i]

@[simp] theorem State.pending_handTo (p : Party) (timer : Option Nat) : (s.handTo i p timer).pending = s.pending := by
  rw [s.handTo_frame p timer i]

theorem State.pending_takeSlot : (s.takeSlot i).pending = s.pending := by
  rw [State.takeSlot_eq, State.pending_handTo, State.handedOver_frame]

theorem State.pending_endBenchHold : (s.endBenchHold i).pending = s.pending := by
  rw [State.endBenchHold_eq, State.pending_handTo, (s.worksAt_endBenchContext i).pending]

theorem State.pending_holdExpiry : (s.holdExpiry i).pending = s.pending := by
  unfold State.holdExpiry
  split
  · exact s.pending_endBenchHold i
  · rfl

theorem State.pending_setPair (pr : Fin 4) (mode : PairMode) : (s.setPair pr mode).pending = s.pending := by
  rw [State.setPair_frame]

/-- Acts that leave the queue leave it when they follow one another. -/
theorem State.pending_foldl {α : Type} {f : State → α → State} (hf : ∀ (s : State) (a : α), (f s a).pending = s.pending)
    (as : List α) : (as.foldl f s).pending = s.pending := by
  induction as generalizing s with
  | nil => rfl
  | cons a rest ih => exact (ih _).trans (hf s a)

end

/-! ## Acceptance -/

section
variable (s : State) (p : Party) (target : Nibble)

theorem State.pending_onHeldSlot {act : Fin 8 → State → State × Reply}
    (h : ∀ (i : Fin 8) (u : State), (act i u).1.pending = u.pending) :
    (s.onHeldSlot p target act).1.pending = s.pending := by
  rcases s.onHeldSlot_cases p target act with ⟨-, e⟩ | ⟨i, -, ⟨-, e⟩ | ⟨-, -, e⟩ | ⟨-, -, e⟩⟩ <;> rw [e]
  exact (h i _).trans (s.pending_restartHold i p)

theorem State.pending_onAnySlot (report : Fin 8 → State → Reply) :
    (s.onAnySlot p target report).1.pending = s.pending := by
  unfold State.onAnySlot
  split
  · rfl
  · exact s.pending_restartHold _ p

theorem State.pending_partWide {act : State → State × Reply} (h : ∀ u : State, (act u).1.pending = u.pending) :
    (s.partWide p act).1.pending = s.pending := by
  rcases s.partWide_cases p act with ⟨-, e⟩ | ⟨-, -, e⟩ | ⟨-, -, -, e⟩ <;> rw [e]
  exact h s

theorem State.pending_onStack (remove : Slot → Slot × Status) :
    (s.onStack p target remove).1.pending = s.pending := by
  refine s.pending_onHeldSlot p target fun i u => ?_
  split <;> rfl

/-! ## The commands -/

theorem pending_cmdBind (arg : Nibble) : (cmdBind p target arg s).1.pending = s.pending := by
  refine s.pending_onHeldSlot p target fun i u => ?_
  split_ifs <;> simp

theorem pending_cmdUnbind (arg : Nibble) : (cmdUnbind p target arg s).1.pending = s.pending := by
  refine s.pending_onHeldSlot p target fun i u => ?_
  split <;> simp

theorem pending_cmdStart (arg : Nibble) : (cmdStart p target arg s).1.pending = s.pending := by
  refine s.pending_onHeldSlot p target fun i u => ?_
  dsimp only
  split_ifs <;> simp

theorem pending_cmdStop (arg : Nibble) : (cmdStop p target arg s).1.pending = s.pending := by
  refine s.pending_onHeldSlot p target fun i u => ?_
  split <;> simp

theorem pending_cmdAck (arg : Nibble) : (cmdAck p target arg s).1.pending = s.pending := by
  refine s.pending_onHeldSlot p target fun i u => ?_
  split
  · split <;> rfl
  all_goals rfl

theorem pending_cmdDrive (arg : Nibble) (op : Word) : (cmdDrive p target arg op s).1.pending = s.pending := by
  unfold cmdDrive
  repeat' split
  iterate 3 rfl
  exact s.pending_onHeldSlot p target fun i u => (worksAt_driveSlot _ i u).pending

theorem pending_cmdSlotInit (arg : Nibble) : (cmdSlotInit p target arg s).1.pending = s.pending := by
  refine s.pending_onHeldSlot p target fun i u => ?_
  split <;> simp

theorem pending_cmdSummaryRead (arg : Nibble) : (cmdSummaryRead p target arg s).1.pending = s.pending := by
  unfold cmdSummaryRead
  split
  · rfl
  · exact s.pending_onAnySlot p target _

theorem pending_cmdTake (arg : Nibble) : (cmdTake p target arg s).1.pending = s.pending := by
  unfold cmdTake
  repeat' split
  iterate 4 rfl
  · exact s.pending_restartHold _ p
  · exact s.pending_takeSlot _
  · rfl

theorem pending_cmdRelease (arg : Nibble) : (cmdRelease p target arg s).1.pending = s.pending := by
  unfold cmdRelease
  repeat' split
  iterate 4 rfl
  exact s.pending_endBenchHold _

theorem pending_cmdHoldTime (arg : Nibble) (op : Word) : (cmdHoldTime p target arg op s).1.pending = s.pending := by
  unfold cmdHoldTime
  split_ifs <;> rfl

theorem pending_cmdEvPeek (arg : Nibble) : (cmdEvPeek p target arg s).1.pending = s.pending := by
  unfold cmdEvPeek
  split
  · rfl
  · exact s.pending_onAnySlot p target _

theorem pending_cmdEvFree (arg : Nibble) : (cmdEvFree p target arg s).1.pending = s.pending := by
  unfold cmdEvFree
  split
  · rfl
  · exact s.pending_onStack p target _

theorem pending_cmdFaultRead (arg : Nibble) (op : Word) : (cmdFaultRead p target arg op s).1.pending = s.pending := by
  unfold cmdFaultRead
  split
  · rfl
  split
  · rfl
  · exact s.pending_restartHold _ p

theorem pending_cmdAlertMask (arg : Nibble) (op : Word) : (cmdAlertMask p target arg op s).1.pending = s.pending := by
  unfold cmdAlertMask
  split
  · rfl
  · rw [State.setMask_frame]
    rfl

theorem pending_cmdProfileWrite (arg : Nibble) (ops : List Word) :
    (cmdProfileWrite p target arg ops s).1.pending = s.pending := by
  unfold cmdProfileWrite
  dsimp only
  split_ifs <;> rfl

theorem pending_cmdPair (arg : Nibble) : (cmdPair p target arg s).1.pending = s.pending := by
  unfold cmdPair
  split
  · dsimp only
    split_ifs
    · rfl
    · exact (State.pending_setPair ..).trans (s.pending_restartHold _ p)
    · exact s.pending_restartHold _ p
  · rfl

theorem pending_cmdPartStatus (arg : Nibble) : (cmdPartStatus p target arg s).1.pending = s.pending := by
  unfold cmdPartStatus
  split <;> rfl

theorem pending_cmdSetSampling (arg : Nibble) (op : Word) :
    (cmdSetSampling p target arg op s).1.pending = s.pending := by
  unfold cmdSetSampling
  split
  · rfl
  · exact s.pending_partWide p fun _ => rfl

theorem pending_cmdTrimSet (arg : Nibble) (op : Word) : (cmdTrimSet p target arg op s).1.pending = s.pending := by
  unfold cmdTrimSet
  split
  · rfl
  · exact s.pending_partWide p fun _ => rfl

theorem pending_cmdTrimRead (arg : Nibble) : (cmdTrimRead p target arg s).1.pending = s.pending := by
  unfold cmdTrimRead
  split <;> rfl

theorem pending_cmdTrimProgram (arg : Nibble) : (cmdTrimProgram p target arg s).1.pending = s.pending := by
  unfold cmdTrimProgram
  split
  · rfl
  · exact s.pending_partWide p fun _ => by split <;> rfl

theorem pending_cmdDeviceReset (arg : Nibble) : (cmdDeviceReset p target arg s).1.pending = s.pending := by
  unfold cmdDeviceReset
  split_ifs <;> rfl

/-- No command touches what waits. -/
theorem pending_act (c : Cmd) (arg : Nibble) (ops : List Word) :
    (Cmd.act c p target arg ops s).1.pending = s.pending := by
  cases c with
  | bind => exact pending_cmdBind s p target arg
  | unbind => exact pending_cmdUnbind s p target arg
  | start => exact pending_cmdStart s p target arg
  | stop => exact pending_cmdStop s p target arg
  | ack => exact pending_cmdAck s p target arg
  | drive => exact pending_cmdDrive s p target arg _
  | setConv => exact s.pending_onHeldSlot p target fun _ _ => rfl
  | slotInit => exact pending_cmdSlotInit s p target arg
  | status => exact s.pending_onAnySlot p target _
  | summaryRead => exact pending_cmdSummaryRead s p target arg
  | take => exact pending_cmdTake s p target arg
  | release => exact pending_cmdRelease s p target arg
  | holdTime => exact pending_cmdHoldTime s p target arg _
  | evPeek => exact pending_cmdEvPeek s p target arg
  | evRetire => exact s.pending_onStack p target _
  | evFree => exact pending_cmdEvFree s p target arg
  | evClear => exact s.pending_onStack p target _
  | faultRead => exact pending_cmdFaultRead s p target arg _
  | alertMask => exact pending_cmdAlertMask s p target arg _
  | profileWrite => exact pending_cmdProfileWrite s p target arg ops
  | profileRead => rfl
  | pair => exact pending_cmdPair s p target arg
  | partStatus => exact pending_cmdPartStatus s p target arg
  | setSampling => exact pending_cmdSetSampling s p target arg _
  | trimSet => exact pending_cmdTrimSet s p target arg _
  | trimRead => exact pending_cmdTrimRead s p target arg
  | trimProgram => exact pending_cmdTrimProgram s p target arg
  | deviceReset => exact pending_cmdDeviceReset s p target arg

end

/-! ## The ports -/

section
variable (s : State) (p : Party)

@[simp] theorem State.pending_answer (code : Byte) (target : Nibble) (r : Reply) :
    (s.answer p code target r).pending = s.pending := State.OnlyPorts.pending (s.onlyPorts_answer ..)

theorem State.pending_takeAssembled (code : Byte) (target arg : Nibble) (ops : List Word) :
    (s.takeAssembled p code target arg ops).pending = s.pending := by
  unfold State.takeAssembled
  split
  · exact (State.pending_answer ..).trans (pending_act ..)
  · exact s.pending_answer ..

theorem State.pending_abandonPartial : (s.abandonPartial p).pending = s.pending := by
  rw [State.abandonPartial_eq, s.linkBroken_frame p]

theorem State.pending_assembleHeader (h : HeaderWord) : (s.assembleHeader p h).pending = s.pending := by
  unfold State.assembleHeader
  dsimp only
  split
  · rw [State.pending_takeAssembled, State.pending_abandonPartial]
  · rw [State.modPort_pending, State.pending_abandonPartial]

theorem State.pending_assembleData (w : Word) : (s.assembleData p w).pending = s.pending := by
  unfold State.assembleData
  split
  · split
    · rw [State.pending_takeAssembled, State.modPort_pending]
    · exact s.modPort_pending p _
  · rfl

theorem State.pending_rackHeader (clocks : Nat) (content : HeaderWord) (before : Bool) :
    (s.rackHeader clocks content before).pending = s.pending := by
  unfold State.rackHeader
  dsimp only
  split_ifs
  · rfl
  · exact State.pending_assembleHeader ..
  · rfl

theorem State.pending_rackData (clocks : Nat) (content : Word) (before : Bool) :
    (s.rackData clocks content before).pending = s.pending := by
  unfold State.rackData
  dsimp only
  split_ifs
  · rfl
  · exact State.pending_assembleData ..
  · rfl

theorem State.pending_writeByte (b : Byte) : (s.writeByte b).pending = s.pending := by
  unfold State.writeByte
  split
  · split <;> rfl
  · split
    · exact State.pending_assembleHeader ..
    · rfl
  · exact State.pending_assembleData ..
  all_goals rfl

theorem State.pending_completeUnit (bytes : List Byte) : (s.completeUnit bytes).pending = s.pending := by
  unfold State.completeUnit
  split
  · exact s.pending_foldl State.pending_writeByte _
  · rfl

theorem State.pending_endTransaction (next : Bus) : (s.endTransaction next).pending = s.pending := by
  unfold State.endTransaction
  dsimp only
  split <;> rfl

theorem State.pending_addressByte (b : Byte) : (s.addressByte b).pending = s.pending := by
  unfold State.addressByte
  repeat' split
  all_goals rfl

theorem State.pending_readByte (acked : Bool) : (s.readByte acked).pending = s.pending := by
  unfold State.readByte
  repeat' split
  all_goals rfl

end

/-! ## The events -/

section
variable (s : State)

theorem State.pending_sampleArrival (ch : Fin 8) (code : SenseCode) :
    (s.sampleArrival ch code).pending = s.pending := by
  unfold State.sampleArrival
  split
  · rfl
  · exact (State.worksAt_sampleAtSlot _ ch).pending

theorem State.pending_pairSample (pr : Fin 4) (codeX codeY : SenseCode) :
    (s.pairSample pr codeX codeY).pending = s.pending := by
  unfold State.pairSample
  split
  · exact (State.worksAt_sampleAtSlot _ (lowerOf pr)).pending
  · rfl

theorem State.pending_completeProgramming : s.completeProgramming.pending = s.pending := by
  unfold State.completeProgramming
  split <;> rfl

/-- A shelf input asserted: its level, and a pause at every slot where a hold comes into force. -/
theorem State.pending_assertInput (k : PartFault) (already : Bool) {set : State → State}
    (hset : ∀ u : State, (set u).pending = u.pending) : (s.assertInput k already set).pending = s.pending := by
  have hpause (u : State) (i : Fin 8) : (u.pauseSlot i).pending = u.pending := (u.worksAt_pauseSlot i).pending
  unfold State.assertInput
  dsimp only
  split_ifs
  · rfl
  · exact hset _
  · exact (State.pending_foldl _ hpause _).trans (hset _)

theorem State.pending_releaseInput {set : State → State} (hset : ∀ u : State, (set u).pending = u.pending) :
    (s.releaseInput set).pending = s.pending := by
  have hresume (u : State) (i : Fin 8) : (u.resumeSlot i).pending = u.pending := (u.worksAt_resumeSlot i).pending
  unfold State.releaseInput
  dsimp only
  split_ifs
  · exact (State.pending_foldl _ hresume _).trans (hset s)
  · exact hset s

end

/-- What acts on a part that is not held gives a next state, with the queue left where the act leaves it. -/
theorem State.live_completes {f : State → State} (h : ∀ s : State, (f s).pending = s.pending) (s : State) :
    ∃ t, s.live f = .next t ∧ t.pending = s.pending := by
  cases hheld : s.held with
  | true => exact ⟨s, State.live_of_held f hheld, rfl⟩
  | false => exact ⟨f s, State.live_of_not_held f hheld, h s⟩

/-- The rows that are no named command: the block's own events, its inputs, and the rows of the two buses. -/
theorem exec_completes_of_unnamed {c : Instr} (hc : namedOf c = none) (s : State) :
    ∃ t, exec c s = .next t ∧ t.pending = s.pending := by
  cases c with
  | sampleArrival ch code => exact State.live_completes (fun s => s.pending_sampleArrival ch code) s
  | pairSampleEvent pr x y => exact State.live_completes (fun s => s.pending_pairSample pr x y) s
  | onTimeExpiry i => exact State.live_completes (fun s => (s.worksAt_onTimeExpiry i).pending) s
  | bleedExpiry i => exact State.live_completes (fun s => (s.worksAt_bleedExpiry i).pending) s
  | restExpiry i => exact State.live_completes (fun s => (s.worksAt_restExpiry i).pending) s
  | endOfLead i => exact State.live_completes (fun s => (s.worksAt_endOfLead i).pending) s
  | drainCompletion i => exact State.live_completes (fun s => (s.worksAt_drainCompletion i).pending) s
  | holdTimerExpiry i => exact State.live_completes (fun s => s.pending_holdExpiry i) s
  | trimProgrammingCompletion => exact State.live_completes State.pending_completeProgramming s
  | heatAsserted =>
    exact State.live_completes
      (fun u => u.pending_assertInput .heat u.heat (set := fun v => { v with heat := true }) fun _ => rfl)
      (s.withPin false true)
  | supplyLowAsserted =>
    exact State.live_completes
      (fun u => u.pending_assertInput .supply u.supplyLow (set := fun v => { v with supplyLow := true }) fun _ => rfl)
      (s.withPin true true)
  | heatReleased =>
    exact State.live_completes (fun u => u.pending_releaseInput (set := fun v => { v with heat := false }) fun _ => rfl)
      (s.withPin false false)
  | supplyLowReleased =>
    exact State.live_completes
      (fun u => u.pending_releaseInput (set := fun v => { v with supplyLow := false }) fun _ => rfl)
      (s.withPin true false)
  | resetLineAsserted => exact ⟨_, rfl, by split <;> rfl⟩
  | resetLineReleased =>
    refine ⟨_, rfl, ?_⟩
    dsimp only
    split_ifs <;> rfl
  | logicSupplyLoss => exact ⟨_, rfl, by split <;> rfl⟩
  | powerOn => exact ⟨_, rfl, by split <;> rfl⟩
  | rackHeaderFrame clocks content before =>
    exact State.live_completes (fun s => s.pending_rackHeader clocks content before) s
  | rackDataFrame clocks content before =>
    exact State.live_completes (fun s => s.pending_rackData clocks content before) s
  | benchStartCondition | benchStopCondition => exact State.live_completes (fun s => s.pending_endTransaction _) s
  | benchAddressByte b => exact State.live_completes (fun s => s.pending_addressByte b) s
  | benchHeaderUnit content => exact State.live_completes (fun s => s.pending_completeUnit (headerBytes content)) s
  | benchDataUnit content => exact State.live_completes (fun s => s.pending_completeUnit (dataBytes content)) s
  | badKindByte b | benchUnitByte b => exact State.live_completes (fun s => s.pending_writeByte b) s
  | benchReadByte acked => exact State.live_completes (fun s => s.pending_readByte acked) s
  | _ => exact nomatch hc

/-- Settles O2: a named command is its block's act and an answer, and every other row is one act. -/
theorem everyCommandCompletes : Obligations.EveryCommandCompletes := by
  intro c s
  cases hc : namedOf c with
  | none => exact exec_completes_of_unnamed hc s
  | some n =>
    obtain ⟨ops, hexec⟩ := exec_of_named hc
    rw [hexec]
    exact State.live_completes (fun s => (State.pending_answer ..).trans (pending_act s ..)) s

end Sys2Proof.Machine
end
